-- ==== Sys2Proof/Word.lean ====
section
/-! DEFINITION. The words of the machine: bytes, station addresses, the four bytes of one beat. -/

namespace Sys2Proof

/-- A byte of station memory or of a maintenance frame. -/
abbrev Byte := BitVec 8

/-- A 32-bit station address (00_scope.md, Conventions); arithmetic on it wraps, as R1 says of a burst. -/
abbrev Addr := BitVec 32

/-- The four data bytes of one beat; byte `j` lies at the beat address plus `j` (R1). -/
structure Quad where
  b0 : Byte
  b1 : Byte
  b2 : Byte
  b3 : Byte
  deriving DecidableEq, Repr

/-- The bytes of a beat in address order. -/
def Quad.bytes (q : Quad) : List Byte := [q.b0, q.b1, q.b2, q.b3]

/-- The four byte enables of one beat of a write (R1). -/
structure Enables where
  e0 : Bool
  e1 : Bool
  e2 : Bool
  e3 : Bool
  deriving DecidableEq, Repr

/-- "All enables on" (R42). -/
def Enables.all (e : Enables) : Bool := e.e0 && e.e1 && e.e2 && e.e3

/-- At least one byte enable on (R16). -/
def Enables.any (e : Enables) : Bool := e.e0 || e.e1 || e.e2 || e.e3

end Sys2Proof
end

