-- ==== Sys2Proof/Config.lean ====
section
/-! DEFINITION. What the implementation fixes. The spec gives every value here, and it leaves the result of
no command undefined, so no free value stands in this file. -/

namespace Sys2Proof.Config

/-- Tally cells of one granule (R68). -/
def cellsPerGranule : Nat := 1024

/-- Granules of the vote store (R68). -/
def granules : Nat := 256

/-- Entries the write-back queue holds at most (R128). -/
def queueRoom : Nat := 16

/-- Queue depth from which the arbiter grants the queue head ahead of through traffic (R137 rule 2). -/
def queueHigh : Nat := 12

/-- Through grants in a row after which the queue head is granted (R137 rule 3). -/
def runLimit : Nat := 8

/-- Notices the ring backlog holds at most (R155). -/
def backlogRoom : Nat := 8

/-- Largest value of a window counter (R38, R39). -/
def counterMax : Nat := 65535

/-- Largest tally (R68, R88). -/
def tallyMax : Int := 7

/-- The limit a RING item brings to a held read (R146). -/
def ringHoldLimit : Nat := 255

/-- Ticks of the timebase from the deassertion of RESET_N to readiness (R180). -/
def readyTicks : Nat := 4

/-- The largest address plus one. -/
def addressTop : Nat := 2 ^ 32

/-- The maintenance command codes of R175; every other code is unknown. `knownCommand` (Decode.lean) says which command
each code is, and with which argument bytes. -/
def commandCodes : List Byte :=
  [0x01, 0x02, 0x03, 0x04, 0x10, 0x11, 0x12, 0x13, 0x14, 0x18, 0x19, 0x20, 0x21, 0x30, 0x31, 0x32,
   0x33, 0x34, 0x38, 0x39, 0x3F]

/-- The divider of each REFDIV value (R181). -/
def divider (refdiv : BitVec 2) : Nat :=
  if refdiv = 0 then 10 else if refdiv = 1 then 20 else if refdiv = 2 then 25 else 50

/-- At-once steps that one event may take. Model bound, DESIGN CHOICE (log 3): no reachable event takes as many. -/
def stepFuel : Nat := 1024

end Sys2Proof.Config
end

