-- ==== Sys2Proof/Syntax.lean ====
section
/-! DEFINITION. The commands of the block: one constructor per row of spec/opcode_table.json, with the row's operands. -/

namespace Sys2Proof

/-- One beat of a write: four data bytes and four byte enables (R1). -/
structure Beat where
  data : Quad
  enables : Enables
  deriving DecidableEq, Repr

/-- The kind of a request with what that kind carries: a READ its beat count, a WRITE its data beats (R1). -/
inductive Transfer
  | read (count : Nat)
  | write (beats : List Beat)
  deriving DecidableEq, Repr

/-- A station bus request at the initiator port (R1). -/
structure Request where
  initiator : Fin 4
  addr : Addr
  transfer : Transfer
  deriving DecidableEq, Repr

/-- Memory's answer code (R13, R134). -/
inductive MemCode
  | okay
  | fault
  deriving DecidableEq, Repr

/-- The commands: every event of the opcode table. Window and field arguments of maintenance commands are
whole bytes, as the frame carries them (R175). -/
inductive Instr
  | requestTake (req : Request)
  | grant
  | throughResponse (code : MemCode) (data : List Quad)
  | writeBackAnswer (code : MemCode)
  | idleExpiry (lane : Fin 4)
  | holdExpiry (initiator : Fin 4)
  | foldStart
  | settleEvaluation
  | entryEntersQueue
  | noticeAccepted
  | repairTake
  | endOfSearching
  | readStatus
  | readFlags
  | clearFlags (mask : BitVec 16)
  | setEnables (value : BitVec 16)
  | writeProfile (window field : Byte) (value : BitVec 32)
  | readProfile (window field : Byte)
  | openWindow (window : Byte)
  | closeWindow (window : Byte)
  | abandonWindow (window : Byte)
  | readCounters (window : Byte)
  | clearCounters (window : Byte)
  | queryUnit (window : Byte) (unit : BitVec 16)
  | reopenUnit (window : Byte) (unit : BitVec 16)
  | setRing (ringBegin ringEnd : Addr)
  | ringEnable
  | ringDisable
  | ringConsumed (pointer : Addr)
  | readRing
  | readFault
  | clearFault
  | coreReset
  | badcmd (code : Byte)
  | frameEnd
  | pinResetAssert
  | pinResetDeassert (refdiv : BitVec 2)
  | ready
  | frameOpen
  | timebaseTick
  deriving DecidableEq, Repr

end Sys2Proof
end

