-- ==== Sys2Proof/Machine/State.lean ====
section
/-! DEFINITION. The state of the part: every register, queue, buffer, counter, mode and pin the spec names, as plain data. -/

namespace Sys2Proof.Machine

/-- Why the machine stops. -/
inductive Fault
  /-- Raised by SETTLE_EVALUATION and END_OF_SEARCHING when the engine's record names a context slot that is free.
  Safe: no run from a state whose records and contexts agree reaches it (log 16). -/
  | inconsistentRecord
  deriving DecidableEq, Repr

/-- Why a command has no meaning. -/
inductive Refusal
  /-- Raised by `exec` for a command that has no meaning yet. Safe. -/
  | notModelled (mnemonic : String)
  /-- Raised by REQUEST_TAKE on a request that R1 does not allow: a misaligned address, or not 1 to 16 beats. Safe (log 15). -/
  | malformedRequest
  /-- Raised by BADCMD on a code that R175 knows: the answer to it is that command's own, not BADCMD. Safe (log 15). -/
  | knownCommandCode
  deriving DecidableEq, Repr

/-! ### Windows -/

/-- A unit of a window; its index equals its slot number (R6). Also the owner of a write-back entry (R125). -/
structure UnitId where
  window : Fin 8
  unit : Nat
  deriving DecidableEq, Repr

/-- R26. -/
inductive WindowState
  | off
  | active
  | closing
  deriving DecidableEq, Repr

/-- R22 field 3. -/
inductive CheckKind
  | none
  | crc16
  | crc32
  deriving DecidableEq, Repr

/-- The fourteen profile fields of R22. -/
structure Profile where
  base : Addr
  sizeCode : Nat
  unitCount : Nat
  checkKind : CheckKind
  preset : BitVec 32
  captureSet : BitVec 4
  minPasses : Nat
  passLimit : Nat
  cleanWeight : Nat
  weakThreshold : Nat
  candidateLimit : Nat
  maxFlips : Nat
  holdLimit : Nat
  idleLimit : Nat
  deriving DecidableEq, Repr

/-- The defaults of R22. -/
def Profile.default : Profile where
  base := 0
  sizeCode := 2
  unitCount := 1
  checkKind := .crc16
  preset := 0xFFFFFFFF
  captureSet := 14
  minPasses := 2
  passLimit := 8
  cleanWeight := 2
  weakThreshold := 2
  candidateLimit := 12
  maxFlips := 2
  holdLimit := 50
  idleLimit := 2000

/-- The eleven counters of R38. -/
structure Counters where
  passesFolded : Nat
  passesTorn : Nat
  passesLate : Nat
  denials : Nat
  good : Nat
  repaired : Nat
  agreed : Nat
  exhausted : Nat
  unsettled : Nat
  overrides : Nat
  staleReads : Nat
  deriving DecidableEq, Repr

/-- All eleven counters at 0 (R39). -/
def Counters.zero : Counters := ⟨0, 0, 0, 0, 0, 0, 0, 0, 0, 0, 0⟩

/-- The names of the counters (R38). -/
inductive Counter
  | passesFolded
  | passesTorn
  | passesLate
  | denials
  | good
  | repaired
  | agreed
  | exhausted
  | unsettled
  | overrides
  | staleReads
  deriving DecidableEq, Repr

/-- A window record with its settle map and counters (R22, R35, R38). `settled` lists the unit indices whose
settle-map entry is set, in ascending order. -/
structure Window where
  state : WindowState
  profile : Profile
  settled : List Nat
  counters : Counters
  deriving DecidableEq, Repr

/-- A window record after either reset (R22, R36, R39). -/
def Window.reset : Window := ⟨.off, Profile.default, [], Counters.zero⟩

/-! ### Verdicts and notices -/

/-- The verdict codes of R184. -/
inductive Verdict
  | opened
  | good
  | repaired
  | agreed
  | exhausted
  | unsettled
  | rawClean
  | raw
  | overridden
  deriving DecidableEq, Repr

/-- R124. -/
inductive RepairOutcome
  | none
  | found
  | nomatch
  | ambiguous
  | overlimit
  | nocandidates
  deriving DecidableEq, Repr

/-- The fields of a ring notice (R185), but for the sequence, which the writer gives at placement (R161). -/
structure Notice where
  uid : UnitId
  verdict : Verdict
  passes : Nat
  weak : Nat
  flips : List Nat
  lastRepair : RepairOutcome
  clean : Nat
  deriving DecidableEq, Repr

/-! ### Bus path -/

/-- The slot regions of R6. -/
inductive Region
  | data
  | check
  | verdict
  deriving DecidableEq, Repr

/-- A beat's classification (R5 to R7): outside, or in a slot, with the slot offset, the region, whether the beat is
capture-class, and whether the window was CLOSING when the beat was classified. -/
inductive BeatClass
  | outside
  | slot (uid : UnitId) (offset : Nat) (region : Region) (capture closing : Bool)
  deriving DecidableEq, Repr

/-- A beat of a taken write that is not yet dealt with, with its address and its classification (R4, R8). -/
structure WaitingBeat where
  addr : Addr
  beat : Beat
  cls : BeatClass
  deriving DecidableEq, Repr

/-- A taken request whose response has not been given (R3, R8, R10, R13). -/
structure Active where
  initiator : Fin 4
  /-- The beats of a write still waiting; nonempty between events only while the write is stalled (R10), or while the
  events of R49's first row meet (log 18). -/
  waiting : List WaitingBeat
  /-- Forwarded pieces, or the read itself, not yet answered by memory. -/
  inFlight : Nat
  /-- A forwarded piece was answered FAULT (R13). -/
  faulted : Bool
  /-- The read's hold limit expired (R149). -/
  stale : Bool
  /-- An event has ended with beats of the write waiting (R10); cleared when none waits any more. -/
  stalled : Bool
  deriving DecidableEq, Repr

/-- The override record of R18. `dataSize` is the D of the slot at the take (log 10). -/
structure OverrideRecord where
  uid : UnitId
  slotAddr : Addr
  dataSize : Nat
  passes : Nat
  weak : Nat
  clean : Nat
  lastRepair : RepairOutcome
  deriving DecidableEq, Repr

/-- A through-transaction in the through order (R12). A piece that overrides carries its record (R18). -/
structure Through where
  initiator : Fin 4
  addr : Addr
  transfer : Transfer
  record : Option OverrideRecord
  deriving DecidableEq, Repr

/-- R125. -/
inductive EntryKind
  | chunk
  | trailer
  | ring
  deriving DecidableEq, Repr

/-- Who issued a request at the memory port: an initiator (IDs 0 to 3) or the part itself (ID 4) with the entry's kind. -/
inductive Source
  | initiator (k : Fin 4)
  | writeBack (kind : EntryKind)
  deriving DecidableEq, Repr

/-- A request issued to the memory port and not yet answered (R1, R136). -/
structure Issued where
  source : Source
  addr : Addr
  transfer : Transfer
  deriving DecidableEq, Repr

/-- The response codes of R2. -/
inductive ResponseCode
  | okay
  | stale
  | fault
  deriving DecidableEq, Repr

/-- A response given to an initiator (R2). -/
structure Response where
  code : ResponseCode
  data : List Quad
  deriving DecidableEq, Repr

/-! ### Lanes and the fold queue -/

/-- A staging buffer (R40, R41); the content is the slot bytes from offset 0 as written. -/
inductive Buffer
  | free
  | filling (content : List Byte)
  | staged (content : List Byte)
  deriving DecidableEq, Repr

/-- The filling-pass record of R40. -/
structure Filling where
  uid : UnitId
  expected : Nat
  buffer : Fin 2
  deriving DecidableEq, Repr

/-- The late-run record of R40. -/
structure LateRun where
  uid : UnitId
  expected : Nat
  deriving DecidableEq, Repr

/-- A pass lane (R40). The idle timer is stopped (`none`) or holds the ticks that remain; 0 means that the expiry is
due (log 6). -/
structure Lane where
  filling : Option Filling
  lateRun : Option LateRun
  buffer0 : Buffer
  buffer1 : Buffer
  timer : Option Nat
  deriving DecidableEq, Repr

/-- A lane after either reset (R40, R58). -/
def Lane.reset : Lane := ⟨none, none, .free, .free, none⟩

/-- A staged pass: an entry of the fold queue (R55). -/
structure StagedPass where
  lane : Fin 4
  buffer : Fin 2
  uid : UnitId
  deriving DecidableEq, Repr

/-! ### Unit table and vote store -/

/-- R62. -/
inductive ContextState
  | opened
  | folding
  | repairWait
  | repairing
  | draining
  deriving DecidableEq, Repr

/-- A context (R59). The two chunk sets are ascending lists of chunk numbers. -/
structure Context where
  uid : UnitId
  state : ContextState
  passes : Nat
  clean : Nat
  granules : List Nat
  written : List Nat
  dirty : List Nat
  weak : Nat
  lastRepair : RepairOutcome
  flips : List Nat
  outstanding : Nat
  posting : Bool
  deriving DecidableEq, Repr

/-- A tally cell (R68). -/
structure Cell where
  tally : Int
  fused : Bool
  deriving DecidableEq, Repr

/-- A cell as admission sets it (R71). -/
def Cell.zero : Cell := ⟨0, false⟩

/-! ### Engines -/

/-- The outcomes of a settle evaluation (R93). -/
inductive FoldOutcome
  | good
  | agreed
  | exhausted
  | repair
  | opened
  deriving DecidableEq, Repr

/-- The phases of R80 with the context slot, the outcome decided and, for a raw posting, its cleanness. -/
inductive FoldPhase
  | updating (slot : Fin 32)
  | posting (slot : Fin 32) (outcome : FoldOutcome)
  | raw (clean : Bool)
  deriving DecidableEq, Repr

/-- The fold record of R80; the entries not yet taken stand in the fold's posting. -/
structure FoldRecord where
  pass : StagedPass
  phase : FoldPhase
  deriving DecidableEq, Repr

/-- The phases of R107: SEARCHING with the candidate list, the syndrome (R108) and the progress of the search, which is the
number of subsets examined so far (R111); POSTING with the result. -/
inductive RepairPhase
  | searching (candidates : List Nat) (syndrome : BitVec 32) (examined : Nat)
  | posting (result : Verdict)
  deriving DecidableEq, Repr

/-- The repair record of R107; the entries not yet taken stand in the repair's posting. -/
structure RepairRecord where
  slot : Fin 32
  uid : UnitId
  phase : RepairPhase
  deriving DecidableEq, Repr

/-! ### Write-back -/

/-- A write-back entry (R125). All byte enables of its beats are on. -/
structure Entry where
  kind : EntryKind
  addr : Addr
  beats : List Quad
  owner : Option UnitId
  counted : Bool
  deriving DecidableEq, Repr

/-- A step of a posting (R129): a CHUNK entry, the TRAILER entry, or the notice. -/
inductive PostStep
  | chunk (j : Nat)
  | trailer
  | notice
  deriving DecidableEq, Repr

/-- Who posts, with the source its entries are copied from (R126, R127). -/
inductive Poster
  | fold (slot : Fin 32) (outcome : FoldOutcome)
  | raw (pass : StagedPass) (clean : Bool)
  | repair (slot : Fin 32) (result : Verdict)
  | drain (slot : Fin 32)
  | override (record : OverrideRecord)
  | backlog
  deriving DecidableEq, Repr

/-- A posting begun and neither complete nor ended, with its steps not yet taken (R129). -/
structure Posting where
  poster : Poster
  owner : Option UnitId
  steps : List PostStep
  deriving DecidableEq, Repr

/-- A held fault record (R135). -/
structure FaultRecord where
  addr : Addr
  kind : EntryKind
  deriving DecidableEq, Repr

/-! ### Hold list, ring, port -/

/-- A hold record (R143) but for its initiator, which is its place in the hold list; remaining time 0 means that the
expiry is due (log 6). -/
structure HoldRecord where
  addr : Addr
  count : Nat
  limit : Nat
  remaining : Nat
  counting : Option (Fin 8)
  deriving DecidableEq, Repr

/-- The completion ring writer (R155); a backlog posting in progress stands among the postings. -/
structure Ring where
  first : Addr
  past : Addr
  enabled : Bool
  write : Addr
  consumed : Addr
  sequence : BitVec 8
  backlog : List Notice
  deriving DecidableEq, Repr

/-- The ring writer after either reset (R155). -/
def Ring.reset : Ring := ⟨0, 0, false, 0, 0, 0, []⟩

/-- The twelve event flags of R166. -/
inductive Flag
  | succeeded
  | failed
  | torn
  | late
  | denied
  | stale
  | override
  | closed
  | ringRecord
  | ringLost
  | fault
  | reset
  deriving DecidableEq, Repr

/-- The result codes of R174. -/
inductive Result
  | ok
  | clamped
  | busy
  | badArg
  | badWin
  | badCmd
  deriving DecidableEq, Repr

/-- What a command that has taken effect presents (R170): its argument count, the result, the data after it. -/
structure Reply where
  args : Nat
  result : Result
  data : List Byte
  deriving DecidableEq, Repr

/-- The frame in progress (R170, R171): the status byte captured at its opening, the reply once its command has taken
effect, and whether a core reset is due at its end (R178). -/
structure Frame where
  status : Byte
  reply : Option Reply
  coreReset : Bool
  /-- The bits of the byte that is shifting in, the first one received first (R169). -/
  shift : List Bool
  /-- The complete bytes in, up to those of the command (R170). -/
  received : List Byte
  /-- The place of the bit on MDO: the bits presented after the opening one (R169). -/
  bitsOut : Nat
  deriving DecidableEq, Repr

/-- An edge of MCLK; a rising one carries the level of MDI that it samples (R169). -/
inductive MclkEdge
  | rise (mdi : Bool)
  | fall
  deriving DecidableEq, Repr

/-- RESET_N and readiness (R179, R180): RESET_N low; high with the ticks counted since its deassertion; ready. -/
inductive RunState
  | held
  | recovering (ticks : Nat)
  | ready
  deriving DecidableEq, Repr

/-- R176. -/
inductive ResetCause
  | pin
  | core
  deriving DecidableEq, Repr

/-- The whole part, with the queue of commands waiting. -/
structure State where
  run : RunState
  refdiv : BitVec 2
  windows : Vector Window 8
  active : List Active
  through : List Through
  issued : List Issued
  responses : Vector (Option Response) 4
  lanes : Vector Lane 4
  foldQueue : List StagedPass
  contexts : Vector (Option Context) 32
  freeList : List Nat
  votes : List (Nat × List Cell)
  fold : Option FoldRecord
  repairQueue : List (Fin 32)
  repair : Option RepairRecord
  queue : List Entry
  postings : List Posting
  runCount : Nat
  faultRecord : Option FaultRecord
  holds : Vector (Option HoldRecord) 4
  /-- An event has made a hold test due (R148); clear between events. The model's own field. -/
  testDue : Bool
  ring : Ring
  flags : BitVec 12
  enables : BitVec 12
  mselLow : Bool
  frame : Option Frame
  lastRefused : Bool
  resetSince : Bool
  resetCause : ResetCause
  /-- The edges of MCLK that have come and are not yet dealt with, first in, first out. The model's own field (log 7). -/
  mclk : List MclkEdge
  /-- The commands waiting, first in, first out. The model's own field. -/
  pending : List Instr
  deriving DecidableEq, Repr

/-- The part right after RESET_N has been deasserted (R179, R180): every block at its reset values, the RESET flag and
the reset-since bit set, cause PIN, no tick counted yet. DESIGN CHOICE: REFDIV latched as 0, MSEL high, every tally cell
zero, nothing waiting (logs 4, 5). -/
def State.reset : State where
  run := .recovering 0
  refdiv := 0
  windows := Vector.replicate 8 Window.reset
  active := []
  through := []
  issued := []
  responses := Vector.replicate 4 none
  lanes := Vector.replicate 4 Lane.reset
  foldQueue := []
  contexts := Vector.replicate 32 none
  freeList := List.range Config.granules
  votes := []
  fold := none
  repairQueue := []
  repair := none
  queue := []
  postings := []
  runCount := 0
  faultRecord := none
  holds := Vector.replicate 4 none
  testDue := false
  ring := Ring.reset
  flags := 0x800
  enables := 0
  mselLow := false
  frame := none
  lastRefused := false
  resetSince := true
  resetCause := .pin
  mclk := []
  pending := []

end Sys2Proof.Machine
end

