-- ==== Sys2Proof/WellFormed.lean ====
section
/-! DEFINITION. What operands a command of the spec can carry. -/

namespace Sys2Proof

/-- The request's beat count. -/
def Transfer.count : Transfer → Nat
  | .read n => n
  | .write beats => beats.length

/-- R1: the start address is word-aligned and the beat count is 1 to 16. -/
def Request.wf (r : Request) : Bool :=
  r.addr.toNat % 4 == 0 && 1 ≤ r.transfer.count && r.transfer.count ≤ 16

/-- R175: every code outside the table is unknown. -/
def codeUnknown (code : Byte) : Bool := !Config.commandCodes.contains code

/-- A command whose operands the spec's row can carry. A request keeps R1, memory's data keep the beat bound of
R1, and BADCMD is the answer to an unknown code only (R174). Every operand of the other commands is legal as an
operand: out-of-range windows, fields and values have results of their own (R174). -/
def Instr.wf : Instr → Bool
  | .requestTake r => r.wf
  | .throughResponse _ data => data.length ≤ 16
  | .badcmd code => codeUnknown code
  | _ => true

end Sys2Proof
end

