-- ==== Sys2Proof/Machine/Operands.lean ====
section
/-! DEFINITION. Operand forms: ascending sets, bits and bytes in medium order, slot geometry, beat classification,
profile fields, byte layouts of records. -/

namespace Sys2Proof.Machine

/-! ### Ascending sets of numbers (settle maps, chunk sets, flip lists) -/

/-- Adds a number to an ascending list; a number already there is not added again. -/
def insertAsc (u : Nat) : List Nat → List Nat
  | [] => [u]
  | v :: vs => if u < v then u :: v :: vs else if u = v then v :: vs else v :: insertAsc u vs

/-- Removes a number from an ascending list. -/
def removeAsc (u : Nat) (l : List Nat) : List Nat := l.filter (· != u)

/-- The ascending list of the numbers of `l`. -/
def sortAsc (l : List Nat) : List Nat := l.foldr insertAsc []

/-! ### Bits in medium order (00_scope.md, Bit positions within a unit) -/

/-- The bits of a byte, most significant first. -/
def byteBits (b : Byte) : List Bool :=
  [b.getLsbD 7, b.getLsbD 6, b.getLsbD 5, b.getLsbD 4, b.getLsbD 3, b.getLsbD 2, b.getLsbD 1, b.getLsbD 0]

/-- The bits of bytes in medium order: bit `p` of the list is bit `7 - p % 8` of byte `p / 8` (R87). -/
def bytesBits (l : List Byte) : List Bool := l.flatMap byteBits

/-- The number whose bits these are, most significant first, as a 32-bit word. -/
def wordOfBits (l : List Bool) : BitVec 32 :=
  l.foldl (fun acc b => (acc <<< 1) ||| (if b then 1 else 0)) 0

/-- The bytes whose bits these are, most significant bit of each byte first (R98, R99). -/
def bytesOfBits : List Bool → List Byte
  | a :: b :: c :: d :: e :: f :: g :: h :: rest =>
    (wordOfBits [a, b, c, d, e, f, g, h]).setWidth 8 :: bytesOfBits rest
  | _ => []

/-- The beats of bytes, four by four (R1). -/
def quadsOfBytes : List Byte → List Quad
  | a :: b :: c :: d :: rest => ⟨a, b, c, d⟩ :: quadsOfBytes rest
  | _ => []

/-- `n` bits with those at the listed positions inverted; the first bit has position `i`. -/
def flipFrom (flips : List Nat) : Nat → List Bool → List Bool
  | _, [] => []
  | i, b :: bs => (if flips.contains i then !b else b) :: flipFrom flips (i + 1) bs

/-! ### Numbers in records and frames, least significant byte first (00_scope.md, Byte order) -/

/-- A number as one byte. -/
def byteOf (n : Nat) : Byte := BitVec.ofNat 8 n

/-- A number as two bytes. -/
def bytes2 (n : Nat) : List Byte := [byteOf n, byteOf (n / 256)]

/-- A 32-bit word as four bytes. -/
def bytes4 (x : BitVec 32) : List Byte :=
  [x.setWidth 8, (x >>> 8).setWidth 8, (x >>> 16).setWidth 8, (x >>> 24).setWidth 8]

/-! ### Profile geometry (R22, R25, R70) -/

/-- The check width c of R22 field 3. -/
def CheckKind.width : CheckKind → Nat
  | .none => 0
  | .crc16 => 2
  | .crc32 => 4

/-- D, from the data size code (R22 field 1). -/
def Profile.dataSize (p : Profile) : Nat := 128 * 2 ^ p.sizeCode

/-- c. -/
def Profile.checkWidth (p : Profile) : Nat := p.checkKind.width

/-- The slot stride D + 8 (R25). -/
def Profile.stride (p : Profile) : Nat := p.dataSize + 8

/-- The span in bytes (R25). -/
def Profile.span (p : Profile) : Nat := p.unitCount * p.stride

/-- The station address of slot `u` (R6, R25). -/
def Profile.slotAddr (p : Profile) (u : Nat) : Addr := p.base + BitVec.ofNat 32 (u * p.stride)

/-- The number of data chunks D / 64 (R66). -/
def Profile.chunkCount (p : Profile) : Nat := p.dataSize / 64

/-- G, the granules a unit needs (R70): (D + c) / 128 rounded up. -/
def Profile.granuleCount (p : Profile) : Nat := (p.dataSize + p.checkWidth + 127) / 128

/-- The number of tallied positions 8(D + c) (R87). -/
def Profile.tallied (p : Profile) : Nat := 8 * (p.dataSize + p.checkWidth)

/-- Initiator `k` is in the capture set (R22 field 5, R7). -/
def Profile.captures (p : Profile) (k : Fin 4) : Bool := p.captureSet.getLsbD k.val

/-- The address lies between base and base + span, the end excluded (R5). -/
def Profile.covers (p : Profile) (a : Addr) : Bool :=
  p.base.toNat ≤ a.toNat && a.toNat < p.base.toNat + p.span

/-- Two byte regions, given by first byte and length, share at least one byte (R27, R157). -/
def regionsMeet (b₁ l₁ b₂ l₂ : Nat) : Bool :=
  0 < l₁ && 0 < l₂ && b₁ < b₂ + l₂ && b₂ < b₁ + l₁

/-- A read from `a` of `la` bytes, modulo 2 to the power 32, shares a byte with the `lb` bytes from `b` (R143, R144). -/
def bytesOverlap (a : Addr) (la : Nat) (b : Addr) (lb : Nat) : Bool :=
  0 < la && 0 < lb && ((b - a).toNat < la || (a - b).toNat < lb)

/-! ### Classification of beats (R4 to R8) -/

/-- The region of slot offset `o` (R6). -/
def regionOf (dataSize o : Nat) : Region :=
  if o < dataSize then .data else if o < dataSize + 4 then .check else .verdict

/-- The class of a beat at address `a` that initiator `k` writes, against the window table (R5, R6, R7). -/
def classifyBeat (ws : Vector Window 8) (k : Fin 4) (a : Addr) : BeatClass :=
  match (List.finRange 8).find? (fun w => ws[w].state != .off && ws[w].profile.covers a) with
  | none => .outside
  | some w =>
    let p := ws[w].profile
    let d := a.toNat - p.base.toNat
    .slot ⟨w, d / p.stride⟩ (d % p.stride) (regionOf p.dataSize (d % p.stride)) (p.captures k)
      (ws[w].state == .closing)

/-- The classified beats of a write from address `a` on; the address wraps (R1, R4). -/
def classifyBeats (ws : Vector Window 8) (k : Fin 4) : Addr → List Beat → List WaitingBeat
  | _, [] => []
  | a, b :: bs => ⟨a, b, classifyBeat ws k a⟩ :: classifyBeats ws k (a + 4) bs

/-- Two beats belong to one piece: both outside, or both in one slot of one window (R8). -/
def BeatClass.samePiece : BeatClass → BeatClass → Bool
  | .outside, .outside => true
  | .slot u _ _ _ _, .slot v _ _ _ _ => u == v
  | _, _ => false

/-- The beat lies in the data or check field and has at least one byte enable on (R16). -/
def WaitingBeat.overrides (b : WaitingBeat) : Bool :=
  match b.cls with
  | .slot _ _ .data _ _ => b.beat.enables.any
  | .slot _ _ .check _ _ => b.beat.enables.any
  | _ => false

/-! ### Profile fields (R22, R23) -/

/-- The code of a check kind (R22 field 3). -/
def CheckKind.code : CheckKind → Nat
  | .none => 0
  | .crc16 => 1
  | .crc32 => 2

/-- The stored value of a profile field (R22, R186); `none` above field 13. -/
def Profile.field (p : Profile) : Nat → Option (BitVec 32)
  | 0 => some p.base
  | 1 => some (BitVec.ofNat 32 p.sizeCode)
  | 2 => some (BitVec.ofNat 32 p.unitCount)
  | 3 => some (BitVec.ofNat 32 p.checkKind.code)
  | 4 => some p.preset
  | 5 => some (p.captureSet.setWidth 32)
  | 6 => some (BitVec.ofNat 32 p.minPasses)
  | 7 => some (BitVec.ofNat 32 p.passLimit)
  | 8 => some (BitVec.ofNat 32 p.cleanWeight)
  | 9 => some (BitVec.ofNat 32 p.weakThreshold)
  | 10 => some (BitVec.ofNat 32 p.candidateLimit)
  | 11 => some (BitVec.ofNat 32 p.maxFlips)
  | 12 => some (BitVec.ofNat 32 p.holdLimit)
  | 13 => some (BitVec.ofNat 32 p.idleLimit)
  | _ => none

/-- A value brought into a range (R23). -/
def clampTo (lo hi v : Nat) : Nat := if v < lo then lo else if hi < v then hi else v

/-- CLAMPED when the value was outside the range, OK otherwise (R23). -/
def clampResult (lo hi v : Nat) : Result := if v < lo ∨ hi < v then .clamped else .ok

/-- The outcome of writing a value to a field of an OFF window (R22, R23). -/
def Profile.writeField (p : Profile) (id : Nat) (v : BitVec 32) : Result × Profile :=
  let n := v.toNat
  match id with
  | 0 => if n % 4 = 0 then (.ok, { p with base := v }) else (.badArg, p)
  | 1 => if n ≤ 5 then (.ok, { p with sizeCode := n }) else (.badArg, p)
  | 2 => (clampResult 1 4096 n, { p with unitCount := clampTo 1 4096 n })
  | 3 =>
    if n = 0 then (.ok, { p with checkKind := .none })
    else if n = 1 then (.ok, { p with checkKind := .crc16 })
    else if n = 2 then (.ok, { p with checkKind := .crc32 })
    else (.badArg, p)
  | 4 => (.ok, { p with preset := v })
  | 5 => if n ≤ 15 then (.ok, { p with captureSet := v.setWidth 4 }) else (.badArg, p)
  | 6 => (clampResult 1 15 n, { p with minPasses := clampTo 1 15 n })
  | 7 => (clampResult 1 63 n, { p with passLimit := clampTo 1 63 n })
  | 8 => (clampResult 1 4 n, { p with cleanWeight := clampTo 1 4 n })
  | 9 => (clampResult 1 7 n, { p with weakThreshold := clampTo 1 7 n })
  | 10 => (clampResult 0 24 n, { p with candidateLimit := clampTo 0 24 n })
  | 11 => (clampResult 1 3 n, { p with maxFlips := clampTo 1 3 n })
  | 12 => (clampResult 0 255 n, { p with holdLimit := clampTo 0 255 n })
  | 13 => (clampResult 0 65535 n, { p with idleLimit := clampTo 0 65535 n })
  | _ => (.badArg, p)

/-- The ranges of R22: what WRITE-PROFILE can store. -/
def Profile.legal (p : Profile) : Bool :=
  p.base.toNat % 4 == 0 && p.sizeCode ≤ 5 && 1 ≤ p.unitCount && p.unitCount ≤ 4096
    && 1 ≤ p.minPasses && p.minPasses ≤ 15 && 1 ≤ p.passLimit && p.passLimit ≤ 63
    && 1 ≤ p.cleanWeight && p.cleanWeight ≤ 4 && 1 ≤ p.weakThreshold && p.weakThreshold ≤ 7
    && p.candidateLimit ≤ 24 && 1 ≤ p.maxFlips && p.maxFlips ≤ 3
    && p.holdLimit ≤ 255 && p.idleLimit ≤ 65535

/-! ### Codes and byte layouts (chapter 11) -/

/-- The verdict codes of R184. -/
def Verdict.code : Verdict → Nat
  | .opened => 1
  | .good => 2
  | .repaired => 3
  | .agreed => 4
  | .exhausted => 5
  | .unsettled => 6
  | .rawClean => 7
  | .raw => 8
  | .overridden => 9

/-- The last repair outcome codes of R185. -/
def RepairOutcome.code : RepairOutcome → Nat
  | .none => 0
  | .found => 1
  | .nomatch => 2
  | .ambiguous => 3
  | .overlimit => 4
  | .nocandidates => 5

/-- The condition codes of R61 for a held context. -/
def ContextState.code : ContextState → Nat
  | .opened => 2
  | .folding => 3
  | .repairWait => 4
  | .repairing => 5
  | .draining => 6

/-- The window-state codes of R186. -/
def WindowState.code : WindowState → Nat
  | .off => 0
  | .active => 1
  | .closing => 2

/-- The kind codes of R177. -/
def EntryKind.code : EntryKind → Nat
  | .chunk => 1
  | .trailer => 2
  | .ring => 3

/-- The reset cause codes of R186. -/
def ResetCause.code : ResetCause → Nat
  | .pin => 1
  | .core => 2

/-- The result codes of R174. -/
def Result.code : Result → Nat
  | .ok => 0
  | .clamped => 1
  | .busy => 2
  | .badArg => 3
  | .badWin => 4
  | .badCmd => 5

/-- The verdict word (R184): code, passes, weak count stopped at 255, flip count. -/
def verdictWord (v : Verdict) (passes weak flips : Nat) : Quad :=
  ⟨byteOf v.code, byteOf passes, byteOf (min weak 255), byteOf flips⟩

/-- The check field (R184, R99): the recorded check bytes, the rest of the four bytes 0. -/
def checkField (check : List Byte) : List Quad :=
  quadsOfBytes ((check ++ [0, 0, 0, 0]).take 4)

/-- The three flip positions of a notice or a query, ascending, 0xFFFF for an unused place (R185, R186). -/
def flipPlaces (flips : List Nat) : List Byte :=
  ((flips ++ [0xFFFF, 0xFFFF, 0xFFFF]).take 3).flatMap bytes2

/-- The sixteen bytes of a notice with its sequence number (R185). -/
def Notice.bytes (n : Notice) (sequence : BitVec 8) : List Byte :=
  bytes2 n.uid.unit
    ++ [byteOf n.uid.window.val, byteOf n.verdict.code, byteOf n.passes, byteOf (min n.weak 255),
        byteOf n.flips.length, sequence]
    ++ flipPlaces n.flips ++ [byteOf n.lastRepair.code, byteOf n.clean]

/-- The response bytes of a reply: result code, then data (R170). -/
def Reply.bytes (r : Reply) : List Byte := byteOf r.result.code :: r.data

/-- The frame when its command has taken effect (R170): the reply stands, and MDO has come at least to the bit that is out
while the last bit of the command comes in. -/
def Frame.answered (f : Frame) (r : Reply) : Frame :=
  { f with reply := some r, bitsOut := max f.bitsOut (8 * (r.args + 1) - 1) }

/-- Byte `i` out of a frame (R170): the status byte, 0x00 during the argument bytes, the result code and the data, then
0x00. Before the command has taken effect only byte 0 carries anything else than 0x00. -/
def Frame.outByte (f : Frame) (i : Nat) : Byte :=
  if i = 0 then f.status
  else
    match f.reply with
    | none => 0
    | some r => if i ≤ r.args then 0 else r.bytes.getD (i - r.args - 1) 0

end Sys2Proof.Machine
end

