-- ==== Sys2Proof/Machine/Arith.lean ====
section
/-! DEFINITION. The check, tally and search arithmetic of chapters 5 and 6, on bits and cells alone. -/

namespace Sys2Proof.Machine

/-! ### Check values (R84, R85) -/

/-- The register shifted one place towards its most significant end, and combined with the constant when the feedback
is 1 (R84). -/
def crcShift {w : Nat} (poly reg : BitVec w) (feedback : Bool) : BitVec w :=
  if feedback then (reg <<< 1) ^^^ poly else reg <<< 1

/-- The register after a sequence of bits (R84): for each bit the feedback is the register's most significant bit
combined with the data bit. -/
def crcReg {w : Nat} (poly : BitVec w) : BitVec w → List Bool → BitVec w
  | reg, [] => reg
  | reg, b :: bs =>
    match reg.msb ^^ b with
    | true => crcReg poly (crcShift poly reg true) bs
    | false => crcReg poly (crcShift poly reg false) bs

/-- The CRC16 polynomial constant of R84. -/
def poly16 : BitVec 16 := 0x1021

/-- The CRC32 polynomial constant of R84. -/
def poly32 : BitVec 32 := 0x04C11DB7

/-- The check value of data bits in ascending position order (R84); CRC16 stands in the low 16 bits. -/
def checkValue (kind : CheckKind) (preset : BitVec 32) (bits : List Bool) : BitVec 32 :=
  match kind with
  | .none => 0
  | .crc16 => (crcReg poly16 (preset.setWidth 16) bits).setWidth 32
  | .crc32 => crcReg poly32 preset bits

/-- The tallied bits of a staged pass: its data bits, then the bits of its recorded check (R85, R87). -/
def passBits (p : Profile) (content : List Byte) : List Bool :=
  bytesBits (content.take (p.dataSize + p.checkWidth))

/-- The data bits of a list of tallied bits. -/
def dataBits (p : Profile) (bits : List Bool) : List Bool := bits.take (8 * p.dataSize)

/-- The check bits of a list of tallied bits. -/
def checkBits (p : Profile) (bits : List Bool) : List Bool := bits.drop (8 * p.dataSize)

/-- The syndrome: the computed check of the data bits combined with the check bits (R92). -/
def syndrome (p : Profile) (bits : List Bool) : BitVec 32 :=
  checkValue p.checkKind p.preset (dataBits p bits) ^^^ wordOfBits (checkBits p bits)

/-- The pass is clean (R86): its computed check equals its recorded check; never under NONE. -/
def passClean (p : Profile) (content : List Byte) : Bool :=
  p.checkKind != .none && syndrome p (passBits p content) == 0

/-! ### Tallies (R88 to R91) -/

/-- A tally kept within -7 to +7 (R88). -/
def clampTally (t : Int) : Int := max (-Config.tallyMax) (min Config.tallyMax t)

/-- The update of one tallied cell by a pass bit of weight `w` (R88), and its fused bit (R89). -/
def Cell.update (w : Nat) (c : Cell) (bit : Bool) : Cell :=
  let t := clampTally (if bit then c.tally + w else c.tally - w)
  ⟨t, if 0 < t then true else if t < 0 then false else c.fused⟩

/-- The update of a granule's cells by the pass bits that fall in it; cells past the bits keep their content (R68). -/
def updateCells (w : Nat) : List Cell → List Bool → List Cell
  | c :: cs, b :: bs => c.update w b :: updateCells w cs bs
  | cs, [] => cs
  | [], _ => []

/-- The confidence of a cell (R91). -/
def Cell.confidence (c : Cell) : Nat := c.tally.natAbs

/-- The number of weak cells (R91). -/
def weakCount (threshold : Nat) (cells : List Cell) : Nat :=
  cells.countP (fun c => c.confidence < threshold)

/-- The data chunks in which a fused bit changed (R90). -/
def changedChunks (p : Profile) (before after : List Bool) : List Nat :=
  (List.range p.chunkCount).filter
    (fun j => (before.drop (512 * j)).take 512 != (after.drop (512 * j)).take 512)

/-- The dirty-chunk set after the chunk test (R90): what it held, the changed chunks, and those never written. -/
def chunkTest (p : Profile) (dirty written changed : List Nat) : List Nat :=
  (List.range p.chunkCount).filter
    (fun j => dirty.contains j || changed.contains j || !written.contains j)

/-! ### Vote store (R68): a sparse list of granules in ascending order, none listed with all cells zero -/

/-- A granule whose cells are all zero. -/
def zeroGranule : List Cell := List.replicate Config.cellsPerGranule Cell.zero

/-- The cells of a granule. -/
def readGranule (g : Nat) : List (Nat × List Cell) → List Cell
  | [] => zeroGranule
  | (h, cells) :: rest => if g = h then cells else readGranule g rest

/-- Lists a granule in front of the granules above it, unless all its cells are zero. -/
def putGranule (g : Nat) (cells : List Cell) (above : List (Nat × List Cell)) : List (Nat × List Cell) :=
  if cells = zeroGranule then above else (g, cells) :: above

/-- Stores a granule's cells, keeping the list ascending and free of all-zero granules. -/
def writeGranule (g : Nat) (cells : List Cell) : List (Nat × List Cell) → List (Nat × List Cell)
  | [] => putGranule g cells []
  | (h, old) :: rest =>
    if g < h then putGranule g cells ((h, old) :: rest)
    else if g = h then putGranule g cells rest
    else (h, old) :: writeGranule g cells rest

/-- Admission's clearing of granules (R71 step 3). -/
def clearGranules (gs : List Nat) (votes : List (Nat × List Cell)) : List (Nat × List Cell) :=
  gs.foldl (fun v g => writeGranule g zeroGranule v) votes

/-- The update of a unit's granules, in list order, by its pass bits (R68, R88, R89). -/
def updateGranules (w : Nat) : List Nat → List Bool → List (Nat × List Cell) → List (Nat × List Cell)
  | [], _, votes => votes
  | g :: gs, bits, votes =>
    updateGranules w gs (bits.drop Config.cellsPerGranule)
      (writeGranule g (updateCells w (readGranule g votes) (bits.take Config.cellsPerGranule)) votes)

/-- The cells of a unit's tallied positions, in position order (R68). -/
def unitCells (p : Profile) (granules : List Nat) (votes : List (Nat × List Cell)) : List Cell :=
  (granules.flatMap (fun g => readGranule g votes)).take p.tallied

/-! ### Settle evaluation (R94, R95) -/

/-- The outcome under check kind NONE (R94). -/
def settleNone (p : Profile) (n weak : Nat) : FoldOutcome :=
  if p.minPasses ≤ n ∧ weak = 0 then .agreed
  else if p.passLimit ≤ n then .exhausted
  else .opened

/-- The outcome under CRC16 and CRC32, with the last repair outcome to record, if any (R95). -/
def settleCrc (p : Profile) (n weak : Nat) (isMatch : Bool) : FoldOutcome × Option RepairOutcome :=
  if isMatch then (if p.minPasses ≤ n then .good else .opened, none)
  else if p.minPasses ≤ n then
    if 1 ≤ weak ∧ weak ≤ p.candidateLimit then (.repair, none)
    else
      (if p.passLimit ≤ n then .exhausted else .opened,
       some (if weak = 0 then .nocandidates else .overlimit))
  else (if p.passLimit ≤ n then .exhausted else .opened, none)

/-- The outcome of a settle evaluation (R93). -/
def settleOutcome (p : Profile) (n weak : Nat) (isMatch : Bool) : FoldOutcome × Option RepairOutcome :=
  match p.checkKind with
  | .none => (settleNone p n weak, none)
  | .crc16 => settleCrc p n weak isMatch
  | .crc32 => settleCrc p n weak isMatch

/-- The verdict a fold's trailer carries (R99): OPEN for the outcomes REPAIR and OPEN. -/
def FoldOutcome.verdict : FoldOutcome → Verdict
  | .good => .good
  | .agreed => .agreed
  | .exhausted => .exhausted
  | .repair => .opened
  | .opened => .opened

/-- A final outcome (R93). -/
def FoldOutcome.final : FoldOutcome → Bool
  | .good => true
  | .agreed => true
  | .exhausted => true
  | .repair => false
  | .opened => false

/-! ### Repair search (R109 to R112) -/

/-- The weak positions in candidate order: ascending confidence, then ascending position (R109). -/
def candidates (p : Profile) (cells : List Cell) : List Nat :=
  (List.range p.weakThreshold).flatMap
    (fun c => (cells.zipIdx.filter (fun x => x.1.confidence == c)).map Prod.snd)

/-- The register stepped `n` times with data bits of 0 (06_repair_engine.md, Computing contributions). -/
def crcZeros {w : Nat} (poly : BitVec w) : Nat → BitVec w → BitVec w
  | 0, reg => reg
  | n + 1, reg =>
    match reg.msb with
    | true => crcZeros poly n (crcShift poly reg true)
    | false => crcZeros poly n (crcShift poly reg false)

/-- The contribution of a candidate position (R110). -/
def contribution (p : Profile) (pos : Nat) : BitVec 32 :=
  if pos < 8 * p.dataSize then
    match p.checkKind with
    | .none => 0
    | .crc16 => (crcZeros poly16 (8 * p.dataSize - 1 - pos) poly16).setWidth 32
    | .crc32 => crcZeros poly32 (8 * p.dataSize - 1 - pos) poly32
  else 1 <<< (8 * p.checkWidth - 1 - (pos - 8 * p.dataSize))

/-- The sublists of a given size in ascending lexicographic order of their indices (R111). -/
def subsetsOf {α : Type} : Nat → List α → List (List α)
  | 0, _ => [[]]
  | _ + 1, [] => []
  | n + 1, x :: xs => (subsetsOf n xs).map (x :: ·) ++ subsetsOf (n + 1) xs

/-- The subsets of a size whose combined contribution equals the syndrome (R110, R111). -/
def matchesOf (p : Profile) (cands : List Nat) (s : BitVec 32) (size : Nat) : List (List Nat) :=
  (subsetsOf size (cands.map (fun c => (c, contribution p c)))).filterMap
    (fun sub => if sub.foldl (fun acc x => acc ^^^ x.2) 0 = s then some (sub.map Prod.fst) else none)

/-- The search over the sizes from `size` on, `left` sizes remaining; it stops after the first size with a match (R112). -/
def searchFrom (p : Profile) (cands : List Nat) (s : BitVec 32) : Nat → Nat → RepairOutcome × List Nat
  | 0, _ => (.nomatch, [])
  | left + 1, size =>
    match matchesOf p cands s size with
    | [] => searchFrom p cands s left (size + 1)
    | [sub] => (.found, sortAsc sub)
    | _ => (.ambiguous, [])

/-- The outcome of a search and its flip list (R111, R112). -/
def search (p : Profile) (cands : List Nat) (s : BitVec 32) : RepairOutcome × List Nat :=
  searchFrom p cands s p.maxFlips 1

/-- The subsets examined by the search over the sizes from `size` on, `left` sizes remaining (R111, R112). -/
def searchLengthFrom (p : Profile) (cands : List Nat) (s : BitVec 32) : Nat → Nat → Nat
  | 0, _ => 0
  | left + 1, size =>
    (subsetsOf size cands).length
      + if matchesOf p cands s size = [] then searchLengthFrom p cands s left (size + 1) else 0

/-- The number of subsets a search examines until its outcome is decided (R112). -/
def searchLength (p : Profile) (cands : List Nat) (s : BitVec 32) : Nat := searchLengthFrom p cands s p.maxFlips 1

/-- The result decided at the end of SEARCHING (R113); `none` is a result that is not final. -/
def repairResult (p : Profile) (outcome : RepairOutcome) (n : Nat) (closing : Bool) : Option Verdict :=
  if outcome = .found then some .repaired
  else if p.passLimit ≤ n then some .exhausted
  else if closing then some .unsettled
  else none

/-- The data chunks that hold a position of the flip list (R116). -/
def flipChunks (p : Profile) (flips : List Nat) : List Nat :=
  (List.range p.chunkCount).filter (fun j => flips.any (fun k => k / 512 == j))

end Sys2Proof.Machine
end

