-- ==== Sys2Proof/Machine/Flags.lean ====
section
/-! DEFINITION. Event flags, enables, ATTN, the summary status byte's conditions that rest on flags (R166 to R168). -/

namespace Sys2Proof.Machine

/-- The bit of each flag (R166). -/
def Flag.bit : Flag → Nat
  | .succeeded => 0
  | .failed => 1
  | .torn => 2
  | .late => 3
  | .denied => 4
  | .stale => 5
  | .override => 6
  | .closed => 7
  | .ringRecord => 8
  | .ringLost => 9
  | .fault => 10
  | .reset => 11

/-- The twelve-bit mask of one flag. -/
def Flag.mask (f : Flag) : BitVec 12 := 1 <<< f.bit

/-- The flag is set. -/
def State.flag (s : State) (f : Flag) : Bool := s.flags.getLsbD f.bit

/-- Sets a flag (R166); a set flag stays set. -/
def State.setFlag (s : State) (f : Flag) : State := { s with flags := s.flags ||| f.mask }

/-- CLEAR-FLAGS on the flags: those whose bit is 1 in the mask are cleared, bits 12 to 15 ignored (R167). -/
def clearMask (flags : BitVec 12) (mask : BitVec 16) : BitVec 12 := flags &&& ~~~(mask.setWidth 12)

/-- ATTN is driven low while a set flag has its enable on, and released while RESET_N is low (R168). -/
def State.attnLow (s : State) : Bool := s.run != .held && (s.flags &&& s.enables) != 0

/-- The final verdict flags (R96, R114, R29). -/
def Verdict.flag : Verdict → Flag
  | .exhausted => .failed
  | .unsettled => .failed
  | _ => .succeeded

/-- The counter of a final verdict (R38). -/
def Verdict.counter : Verdict → Counter
  | .good => .good
  | .repaired => .repaired
  | .agreed => .agreed
  | .exhausted => .exhausted
  | .unsettled => .unsettled
  | _ => .overrides

/-- A result that sets the last-result indicator (R172). -/
def Result.refused : Result → Bool
  | .ok => false
  | .clamped => false
  | _ => true

end Sys2Proof.Machine
end

