-- ==== Sys2Proof/Machine/Ops.lean ====
section
/-! DEFINITION. Named operations on the state that several commands share: one home for every register, buffers, contexts,
counters, the settle map, removal of entries, changes of a window's state. -/

namespace Sys2Proof.Machine

/-! ### Plain updates -/

/-- Stores a window record. -/
def State.setWindow (s : State) (w : Fin 8) (x : Window) : State := { s with windows := s.windows.set w x }

/-- Stores a lane. -/
def State.setLane (s : State) (k : Fin 4) (x : Lane) : State := { s with lanes := s.lanes.set k x }

/-- Stores a context slot. -/
def State.setContext (s : State) (i : Fin 32) (x : Option Context) : State :=
  { s with contexts := s.contexts.set i x }

/-- Stores an initiator's hold record, or its absence. -/
def State.setHold (s : State) (k : Fin 4) (x : Option HoldRecord) : State := { s with holds := s.holds.set k x }

/-- Makes a hold test due at the end of the event (R148). -/
def State.dueTest (s : State) : State := { s with testDue := true }

/-- The profile of a window. -/
def State.profile (s : State) (w : Fin 8) : Profile := s.windows[w].profile

/-! ### Counters and settle map -/

/-- One more, stopping at 65535 (R39). -/
def satInc (n : Nat) : Nat := if n < Config.counterMax then n + 1 else n

/-- Increments one counter (R38, R39). -/
def Counters.bump (x : Counters) : Counter → Counters
  | .passesFolded => { x with passesFolded := satInc x.passesFolded }
  | .passesTorn => { x with passesTorn := satInc x.passesTorn }
  | .passesLate => { x with passesLate := satInc x.passesLate }
  | .denials => { x with denials := satInc x.denials }
  | .good => { x with good := satInc x.good }
  | .repaired => { x with repaired := satInc x.repaired }
  | .agreed => { x with agreed := satInc x.agreed }
  | .exhausted => { x with exhausted := satInc x.exhausted }
  | .unsettled => { x with unsettled := satInc x.unsettled }
  | .overrides => { x with overrides := satInc x.overrides }
  | .staleReads => { x with staleReads := satInc x.staleReads }

/-- The counters in the order of R38. -/
def Counters.toList (x : Counters) : List Nat :=
  [x.passesFolded, x.passesTorn, x.passesLate, x.denials, x.good, x.repaired, x.agreed, x.exhausted,
   x.unsettled, x.overrides, x.staleReads]

/-- Increments a counter of a window. -/
def State.bump (s : State) (w : Fin 8) (c : Counter) : State :=
  s.setWindow w { s.windows[w] with counters := s.windows[w].counters.bump c }

/-- The settle-map entry of a unit is set (R35). -/
def State.isSettled (s : State) (u : UnitId) : Bool := s.windows[u.window].settled.contains u.unit

/-- Sets a settle-map entry (R35). -/
def State.settleUnit (s : State) (u : UnitId) : State :=
  s.setWindow u.window
    { s.windows[u.window] with settled := insertAsc u.unit s.windows[u.window].settled }

/-- Clears a settle-map entry (R37). -/
def State.unsettleUnit (s : State) (u : UnitId) : State :=
  s.setWindow u.window
    { s.windows[u.window] with settled := removeAsc u.unit s.windows[u.window].settled }

/-! ### Staging buffers -/

/-- One of the two staging buffers. -/
def Lane.buffer (l : Lane) (b : Fin 2) : Buffer := if b = 0 then l.buffer0 else l.buffer1

/-- Stores one of the two staging buffers. -/
def Lane.setBuffer (l : Lane) (b : Fin 2) (x : Buffer) : Lane :=
  if b = 0 then { l with buffer0 := x } else { l with buffer1 := x }

/-- The buffer a starting pass takes: buffer 0 when both are FREE, else the one that is (R41). -/
def Lane.freeBuffer (l : Lane) : Option (Fin 2) :=
  if l.buffer0 = .free then some 0 else if l.buffer1 = .free then some 1 else none

/-- The bytes a buffer holds. -/
def Buffer.content : Buffer → List Byte
  | .free => []
  | .filling content => content
  | .staged content => content

/-- The bytes of a staged pass. -/
def State.passContent (s : State) (p : StagedPass) : List Byte := (s.lanes[p.lane].buffer p.buffer).content

/-- Returns a staged pass's buffer to its lane as FREE (R41). -/
def State.freePass (s : State) (p : StagedPass) : State :=
  s.setLane p.lane (s.lanes[p.lane].setBuffer p.buffer .free)

/-! ### Contexts (R60, R76, R77) -/

/-- A slot holds a context of the unit. -/
def holdsUnit (u : UnitId) : Option Context → Bool
  | some c => c.uid == u
  | none => false

/-- A slot holds a context of the window. -/
def holdsWindow (w : Fin 8) : Option Context → Bool
  | some c => c.uid.window == w
  | none => false

/-- The context slot of a unit. -/
def State.findContext (s : State) (u : UnitId) : Option (Fin 32) :=
  (List.finRange 32).find? (fun i => holdsUnit u s.contexts[i])

/-- The context slots of a window, in ascending order. -/
def State.windowContexts (s : State) (w : Fin 8) : List (Fin 32) :=
  (List.finRange 32).filter (fun i => holdsWindow w s.contexts[i])

/-- The lowest-numbered free context slot (R60). -/
def State.freeSlot (s : State) : Option (Fin 32) :=
  (List.finRange 32).find? (fun i => s.contexts[i] == none)

/-- Changes a held context; a free slot stays free. -/
def State.modifyContext (s : State) (i : Fin 32) (f : Context → Context) : State :=
  match s.contexts[i] with
  | some c => s.setContext i (some (f c))
  | none => s

/-- Frees a context slot and appends its granules to the tail of the free list in list order (R76, R77). -/
def State.release (s : State) (i : Fin 32) : State :=
  match s.contexts[i] with
  | some c => { s.setContext i none with freeList := s.freeList ++ c.granules }
  | none => s

/-- A DRAINING context whose posting is complete and whose outstanding count is zero is to be released (R76). -/
def Context.done (c : Context) : Bool := c.state == .draining && !c.posting && c.outstanding == 0

/-- Releases the context of a slot when R76 says so. -/
def State.releaseIfDone (s : State) (i : Fin 32) : State :=
  match s.contexts[i] with
  | some c => if c.done then s.release i else s
  | none => s

/-! ### Passes and operations of a window -/

/-- The filling pass of a lane lies in the window. -/
def Lane.fills (l : Lane) (w : Fin 8) : Bool :=
  match l.filling with
  | some f => f.uid.window == w
  | none => false

/-- The late run of a lane lies in the window. -/
def Lane.runsLate (l : Lane) (w : Fin 8) : Bool :=
  match l.lateRun with
  | some r => r.uid.window == w
  | none => false

/-- The fold record's pass lies in the window. -/
def State.foldsIn (s : State) (w : Fin 8) : Bool :=
  match s.fold with
  | some r => r.pass.uid.window == w
  | none => false

/-- No pass of the window is filling, staged or folding (R29). -/
def State.passQuiet (s : State) (w : Fin 8) : Bool :=
  (List.finRange 4).all (fun k => !s.lanes[k].fills w)
    && s.foldQueue.all (fun p => p.uid.window != w) && !s.foldsIn w

/-- Removes the late runs of a window (R54). -/
def State.dropLateRuns (s : State) (w : Fin 8) : State :=
  (List.finRange 4).foldl
    (fun t k => if t.lanes[k].runsLate w then t.setLane k { t.lanes[k] with lateRun := none } else t) s

/-! ### Write-back entries and override records -/

/-- The entry is owned by a unit of which `p` holds. RING entries have no owner (R125). -/
def Entry.ownedBy (e : Entry) (p : UnitId → Bool) : Bool :=
  match e.owner with
  | some u => p u
  | none => false

/-- The posting is of a unit of which `p` holds; a backlog posting is of none. -/
def Posting.ownedBy (x : Posting) (p : UnitId → Bool) : Bool :=
  match x.owner with
  | some u => p u
  | none => false

/-- Removes the ungranted CHUNK and TRAILER entries of the units of which `p` holds; a queue left empty sets the run
count to 0 (R132, R133, R138). The removal of an entry makes a hold test due (R148). -/
def State.removeEntries (s : State) (p : UnitId → Bool) : State :=
  let rest := s.queue.filter (fun e => !e.ownedBy p)
  { s with
    queue := rest
    runCount := if rest = [] then 0 else s.runCount
    testDue := s.testDue || s.queue.any (fun e => e.ownedBy p) }

/-- Ends the postings of the units of which `p` holds (R129): they feed no further step. The end of one makes a hold test
due (R148). -/
def State.endPostings (s : State) (p : UnitId → Bool) : State :=
  { s with
    postings := s.postings.filter (fun x => !x.ownedBy p)
    testDue := s.testDue || s.postings.any (fun x => x.ownedBy p) }

/-- The through-transaction carries an override record of the window. -/
def Through.recordIn (w : Fin 8) (t : Through) : Bool :=
  match t.record with
  | some r => r.uid.window == w
  | none => false

/-- Drops the override record of a through-transaction when the record is of the window. -/
def Through.dropRecord (w : Fin 8) (t : Through) : Through :=
  if t.recordIn w then { t with record := none } else t

/-- Discards every override record of a window; the pieces stay in the through order (R18, R27, R33). The discard of one
makes a hold test due (R148). -/
def State.discardRecords (s : State) (w : Fin 8) : State :=
  { s with
    through := s.through.map (Through.dropRecord w)
    testDue := s.testDue || s.through.any (Through.recordIn w) }

/-! ### Changes of a window's state (R11, R26) -/

/-- Classifies again the waiting beats of a stalled write, when a waiting beat lies in the window's span (R11). -/
def Active.reclassify (ws : Vector Window 8) (span : Addr → Bool) (a : Active) : Active :=
  if a.waiting.any (fun b => span b.addr) then
    { a with waiting := a.waiting.map (fun b => { b with cls := classifyBeat ws a.initiator b.addr }) }
  else a

/-- Changes a window's state; every stalled write with a waiting beat in its span is classified again (R11, R26). -/
def State.changeWindow (s : State) (w : Fin 8) (x : WindowState) : State :=
  let t := s.setWindow w { s.windows[w] with state := x }
  { t with active := t.active.map (Active.reclassify t.windows (s.profile w).covers) }

/-- The window becomes OFF: its state changes and its late runs are removed (R26, R54). -/
def State.windowOff (s : State) (w : Fin 8) : State := (s.changeWindow w .off).dropLateRuns w

end Sys2Proof.Machine
end

