-- ==== Sys2Proof/Machine/Postings.lean ====
section
/-! DEFINITION. Postings: what each poster's entries and notice carry, how the feeding posting takes its next step, and what
its completion does (R97 to R102, R117, R118, R125 to R130, R160 to R162). -/

namespace Sys2Proof.Machine

/-! ### Contents (R126, R127) -/

/-- The context slot a poster copies from. -/
def Poster.slot : Poster → Option (Fin 32)
  | .fold i _ => some i
  | .repair i _ => some i
  | .drain i => some i
  | .raw _ _ => none
  | .override _ => none
  | .backlog => none

/-- The entries of fold, repair and drain postings are counted (R67, R125). -/
def Poster.counted (p : Poster) : Bool := p.slot.isSome

/-- The context a poster copies from. -/
def State.posterContext (s : State) (p : Poster) : Option Context :=
  match p.slot with
  | some i => s.contexts[i]
  | none => none

/-- The verdict a poster's trailer and notice carry (R99, R74, R118, R29, R18). -/
def Poster.verdict : Poster → Verdict
  | .fold _ o => o.verdict
  | .raw _ clean => if clean then .rawClean else .raw
  | .repair _ v => v
  | .drain _ => .unsettled
  | .override _ => .overridden
  | .backlog => .opened

/-- The flip list a poster applies: the context's for REPAIRED, none otherwise (R116, R118). -/
def State.posterFlips (s : State) (p : Poster) : List Nat :=
  match p, s.posterContext p with
  | .repair _ .repaired, some c => c.flips
  | _, _ => []

/-- The tallied bits a poster writes: the fused bits with the flips applied, or the staged pass's bits (R98, R116, R74). -/
def State.posterBits (s : State) (u : UnitId) (p : Poster) : List Bool :=
  match p, s.posterContext p with
  | .raw pass _, _ => passBits (s.profile u.window) (s.passContent pass)
  | _, some c =>
    flipFrom (s.posterFlips p) 0 ((unitCells (s.profile u.window) c.granules s.votes).map Cell.fused)
  | _, none => []

/-- The notice of a poster, whose values the verdict word repeats (R100, R74, R118, R29, R18). -/
def State.posterNotice (s : State) (u : UnitId) (p : Poster) : Notice :=
  match p, s.posterContext p with
  | .raw _ clean, _ => ⟨u, p.verdict, 1, 0, [], .none, if clean then 1 else 0⟩
  | .override r, _ => ⟨u, p.verdict, r.passes, r.weak, [], r.lastRepair, r.clean⟩
  | _, some c => ⟨u, p.verdict, c.passes, c.weak, s.posterFlips p, c.lastRepair, c.clean⟩
  | _, none => ⟨u, p.verdict, 0, 0, [], .none, 0⟩

/-- The verdict word of a poster's trailer (R184). -/
def State.posterVerdictWord (s : State) (u : UnitId) (p : Poster) : Quad :=
  let n := s.posterNotice u p
  verdictWord n.verdict n.passes n.weak n.flips.length

/-- The CHUNK entry of chunk `j` (R98, R118, R74). -/
def State.chunkEntry (s : State) (u : UnitId) (p : Poster) (j : Nat) : Entry where
  kind := .chunk
  addr := (s.profile u.window).slotAddr u.unit + BitVec.ofNat 32 (64 * j)
  beats := quadsOfBytes (bytesOfBits (((s.posterBits u p).drop (512 * j)).take 512))
  owner := some u
  counted := p.counted

/-- The TRAILER entry: one beat for an override posting (R18), two beats for the others (R99, R118, R74, R29). -/
def State.trailerEntry (s : State) (u : UnitId) (p : Poster) : Entry where
  kind := .trailer
  addr :=
    match p with
    | .override r => r.slotAddr + BitVec.ofNat 32 (r.dataSize + 4)
    | _ => (s.profile u.window).slotAddr u.unit + BitVec.ofNat 32 (s.profile u.window).dataSize
  beats :=
    match p with
    | .override _ => [s.posterVerdictWord u p]
    | _ =>
      checkField (bytesOfBits (checkBits (s.profile u.window) (s.posterBits u p)))
        ++ [s.posterVerdictWord u p]
  owner := some u
  counted := p.counted

/-! ### Entering the queue (R66, R67, R128) -/

/-- The write-back queue has room for an entry (R128). -/
def State.queueHasRoom (s : State) : Bool := s.queue.length < Config.queueRoom

/-- An entry joins the tail of the queue. -/
def State.enterEntry (s : State) (e : Entry) : State := { s with queue := s.queue ++ [e] }

/-- A counted TRAILER raises the outstanding count of its poster's context (R67). -/
def Context.countEntry (c : Context) : Context := { c with outstanding := c.outstanding + 1 }

/-- A CHUNK entry of the context has entered the queue (R66, R67). -/
def Context.countChunk (j : Nat) (c : Context) : Context :=
  { c with outstanding := c.outstanding + 1, written := insertAsc j c.written, dirty := removeAsc j c.dirty }

/-- Makes a change in the poster's context, when it has one. -/
def State.onPosterContext (s : State) (p : Poster) (f : Context → Context) : State :=
  match p.slot with
  | some i => s.modifyContext i f
  | none => s

/-! ### The completion ring writer (R156, R160, R161) -/

/-- One place on, wrapping at the end of the region (R156). -/
def Ring.advance (r : Ring) (a : Addr) : Addr := if a + 16 = r.past then r.first else a + 16

/-- The ring is full (R156). -/
def Ring.full (r : Ring) : Bool := r.advance r.write == r.consumed

/-- What becomes of a notice handed over (R160). -/
inductive NoticeFate
  | discarded
  | placed
  | backlogged
  | dropped
  deriving DecidableEq, Repr

/-- The fate decided from the writer's own state (R160). -/
def Ring.fate (r : Ring) : NoticeFate :=
  if r.enabled then
    if r.backlog = [] ∧ ¬ r.full then .placed
    else if r.backlog.length < Config.backlogRoom then .backlogged
    else .dropped
  else .discarded

/-- The RING entry of a notice, at the write pointer with the current sequence number (R161). -/
def Ring.entry (r : Ring) (n : Notice) : Entry :=
  ⟨.ring, r.write, quadsOfBytes (n.bytes r.sequence), none, false⟩

/-- A notice is placed (R161): its entry enters the queue, pointer and sequence advance, RING_RECORD is set. -/
def State.placeNotice (s : State) (n : Notice) : State :=
  { (s.enterEntry (s.ring.entry n)).setFlag .ringRecord with
    ring := { s.ring with write := s.ring.advance s.ring.write, sequence := s.ring.sequence + 1 } }

/-- The writer accepts a notice (R160); `none` while a notice to be placed waits for queue room. -/
def State.acceptNotice (s : State) (n : Notice) : Option State :=
  match s.ring.fate with
  | .discarded => some s
  | .placed => if s.queueHasRoom then some (s.placeNotice n) else none
  | .backlogged => some { s with ring := { s.ring with backlog := s.ring.backlog ++ [n] } }
  | .dropped => some (s.setFlag .ringLost)

/-- A backlog posting moves the backlog head into the ring (R162); `none` while it waits for queue room. -/
def State.moveBacklog (s : State) : Option State :=
  match s.ring.backlog with
  | [] => some s
  | n :: rest =>
    if s.queueHasRoom then some ({ s with ring := { s.ring with backlog := rest } }.placeNotice n) else none

/-! ### Completion of a posting (R102, R74, R117, R29, R162) -/

/-- Posting in progress becomes no (R67). -/
def Context.endPosting (c : Context) : Context := { c with posting := false }

/-- The context's state at fold completion (R64, R102). -/
def FoldOutcome.stateAfter : FoldOutcome → ContextState
  | .good => .draining
  | .agreed => .draining
  | .exhausted => .draining
  | .repair => .repairWait
  | .opened => .opened

/-- The fold record is removed and its pass's buffer returned (R56, R102, R74). -/
def State.endFold (s : State) : State :=
  match s.fold with
  | some r => { s.freePass r.pass with fold := none, testDue := true }
  | none => s

/-- Fold completion (R102). -/
def State.completeFold (s : State) (u : UnitId) (i : Fin 32) (o : FoldOutcome) : State :=
  let t := (s.endFold.bump u.window .passesFolded).modifyContext i
    (fun c => { c.endPosting with state := o.stateAfter })
  match o with
  | .repair => { t with repairQueue := t.repairQueue ++ [i] }
  | .opened => t
  | .good => t.releaseIfDone i
  | .agreed => t.releaseIfDone i
  | .exhausted => t.releaseIfDone i

/-- A posting whose last step has been taken is complete. -/
def State.completePosting (s : State) (x : Posting) : State :=
  match x.poster, x.owner with
  | .fold i o, some u => (s.completeFold u i o).dueTest
  | .raw _ _, _ => s.endFold.dueTest
  | .repair i _, _ => (({ s with repair := none }.modifyContext i Context.endPosting).releaseIfDone i).dueTest
  | .drain i, _ => ((s.modifyContext i Context.endPosting).releaseIfDone i).dueTest
  | .override _, _ => s.dueTest
  | .backlog, _ => s
  | .fold _ _, none => s

/-! ### Feeding (R129, R130) -/

/-- One step of a posting is taken; `none` while it waits for room. -/
def State.takeStep (s : State) (x : Posting) (step : PostStep) : Option State :=
  match step, x.owner with
  | .chunk j, some u =>
    if s.queueHasRoom then
      some ((s.enterEntry (s.chunkEntry u x.poster j)).onPosterContext x.poster (Context.countChunk j))
    else none
  | .trailer, some u =>
    if s.queueHasRoom then
      some ((s.enterEntry (s.trailerEntry u x.poster)).onPosterContext x.poster Context.countEntry)
    else none
  | .notice, some u => s.acceptNotice (s.posterNotice u x.poster)
  | .notice, none => s.moveBacklog
  | .chunk _, none => some s
  | .trailer, none => some s

/-- The feeding posting, the one that began earliest, takes its next step if it can; with its last step it is complete,
and the posting that began next becomes the feeding one (R129). `none` when nothing is to be taken or it waits. -/
def State.feed (s : State) : Option State :=
  match s.postings with
  | [] => none
  | x :: rest =>
    match x.steps with
    | [] => some ({ s with postings := rest }.completePosting x)
    | step :: steps =>
      match s.takeStep x step with
      | none => none
      | some t =>
        match steps with
        | [] => some ({ t with postings := rest }.completePosting x)
        | _ :: _ => some { t with postings := { x with steps := steps } :: rest }

/-- A posting begins: it joins the order of R129 behind those that began before it. -/
def State.beginPosting (s : State) (p : Poster) (u : Option UnitId) (steps : List PostStep) : State :=
  { s with postings := s.postings ++ [⟨p, u, steps⟩] }

end Sys2Proof.Machine
end

