-- ==== Sys2Proof/Machine/Engines.lean ====
section
/-! DEFINITION. The fold engine, the repair engine, the drain and the override, as operations on the state (chapters 2, 4, 5, 6,
and 1.5). -/

namespace Sys2Proof.Machine

/-! ### Fold start (R81 to R83, R71, R73) -/

/-- A pass found late at fold start is discarded (R82). -/
def State.lateDiscard (s : State) (p : StagedPass) : State :=
  ((s.freePass p).bump p.uid.window .passesLate).setFlag .late

/-- A fold start on the context of slot `i` (R63, R83): it leaves the repair queue, or its search is cancelled without a
result (R119), and it becomes FOLDING; the engine enters UPDATING. -/
def State.beginUpdating (s : State) (p : StagedPass) (i : Fin 32) : State :=
  let t := { s with repairQueue := s.repairQueue.filter (· != i) }
  let t :=
    match t.repair with
    | some r => if r.slot = i then { t with repair := none } else t
    | none => t
  { t.modifyContext i (fun c => { c with state := .folding }) with fold := some ⟨p, .updating i⟩ }

/-- A context as admission creates it (R59, R71). -/
def Context.admitted (u : UnitId) (granules : List Nat) : Context where
  uid := u
  state := .folding
  passes := 0
  clean := 0
  granules := granules
  written := []
  dirty := []
  weak := 0
  lastRepair := .none
  flips := []
  outstanding := 0
  posting := false

/-- Admission into a free slot (R71): the first G granules of the free list, their cells cleared, a fresh context. -/
def State.admission (s : State) (p : StagedPass) (i : Fin 32) : State :=
  let g := (s.profile p.uid.window).granuleCount
  let taken := s.freeList.take g
  { s.setContext i (some (Context.admitted p.uid taken)) with
    freeList := s.freeList.drop g
    votes := clearGranules taken s.votes
    fold := some ⟨p, .updating i⟩ }

/-- The steps of a raw posting (R74). -/
def rawSteps (p : Profile) : List PostStep :=
  (List.range p.chunkCount).map PostStep.chunk ++ [.trailer, .notice]

/-- A denial (R73): counted, flagged, and the fold becomes a raw posting (R74). -/
def State.deny (s : State) (p : StagedPass) : State :=
  let clean := passClean (s.profile p.uid.window) (s.passContent p)
  { ((s.bump p.uid.window .denials).setFlag .denied).beginPosting (.raw p clean) (some p.uid)
      (rawSteps (s.profile p.uid.window)) with
    fold := some ⟨p, .raw clean⟩ }

/-- Admission is tried (R71): a free context slot and at least G free granules, or a denial (R73). -/
def State.tryAdmit (s : State) (p : StagedPass) : State :=
  match s.freeSlot with
  | some i =>
    if (s.profile p.uid.window).granuleCount ≤ s.freeList.length then s.admission p i else s.deny p
  | none => s.deny p

/-- The three fold-start checks in order (R81). -/
def State.foldChecks (s : State) (p : StagedPass) : State :=
  if s.isSettled p.uid then s.lateDiscard p
  else
    match s.findContext p.uid with
    | none => s.tryAdmit p
    | some i =>
      match s.contexts[i] with
      | none => s.tryAdmit p
      | some c => if (s.profile p.uid.window).passLimit ≤ c.passes then s.lateDiscard p else s.beginUpdating p i

/-- The fold engine is idle and a staged pass waits (R56). -/
def State.foldDue (s : State) : Bool := s.fold == none && s.foldQueue != []

/-- A fold start: the engine takes the head of the fold queue (R56, R81). -/
def State.foldStart (s : State) : State :=
  match s.foldQueue with
  | [] => s
  | p :: rest => { s with foldQueue := rest }.foldChecks p

/-! ### Settle evaluation (R86 to R97) -/

/-- What the fold of a pass computes for a context (R86 to R95). -/
structure FoldWork where
  votes : List (Nat × List Cell)
  clean : Bool
  weak : Nat
  dirty : List Nat
  outcome : FoldOutcome
  recorded : Option RepairOutcome
  deriving DecidableEq, Repr

/-- The computation of UPDATING over a context's cells (R86 to R92) and the outcome (R93 to R95). -/
def foldWork (p : Profile) (votes : List (Nat × List Cell)) (c : Context) (content : List Byte) : FoldWork :=
  let clean := passClean p content
  let weight := if clean then p.cleanWeight else 1
  let before := (unitCells p c.granules votes).map Cell.fused
  let votes' := updateGranules weight c.granules (passBits p content) votes
  let cells := unitCells p c.granules votes'
  let after := cells.map Cell.fused
  let weak := weakCount p.weakThreshold cells
  let isMatch := syndrome p after == 0
  let decided := settleOutcome p (c.passes + 1) weak isMatch
  { votes := votes'
    clean := clean
    weak := weak
    dirty := chunkTest p c.dirty c.written (changedChunks p before after)
    outcome := decided.1
    recorded := decided.2 }

/-- What the settle evaluation writes into the context (R59, R93, R90, R95, R67). -/
def Context.evaluated (c : Context) (w : FoldWork) : Context :=
  { c with
    state := if w.outcome.final then .draining else .folding
    passes := c.passes + 1
    clean := if w.clean then c.clean + 1 else c.clean
    weak := w.weak
    dirty := w.dirty
    lastRepair := w.recorded.getD c.lastRepair
    posting := true }

/-- The steps of a fold's posting (R97): dirty chunks ascending, the trailer, and the notice of a final verdict. -/
def foldSteps (w : FoldWork) : List PostStep :=
  w.dirty.map PostStep.chunk ++ (if w.outcome.final then [.trailer, .notice] else [.trailer])

/-- What a final verdict does at its decision (R96, R114, R29): settle-map entry, counter, flag. -/
def State.finalVerdict (s : State) (u : UnitId) (v : Verdict) : State :=
  ((s.settleUnit u).bump u.window v.counter).setFlag v.flag

/-- The settle evaluation of the fold in UPDATING (R93), and the begin of its posting (R97, R129). -/
def State.evaluate (s : State) (pass : StagedPass) (i : Fin 32) (c : Context) : State :=
  let w := foldWork (s.profile pass.uid.window) s.votes c (s.passContent pass)
  let t := { s.setContext i (some (c.evaluated w)) with votes := w.votes, fold := some ⟨pass, .posting i w.outcome⟩ }
  let t := if w.outcome.final then t.finalVerdict pass.uid w.outcome.verdict else t
  t.beginPosting (.fold i w.outcome) (some pass.uid) (foldSteps w)

/-! ### Repair engine (R107 to R117) -/

/-- The repair engine is idle and a context waits (R107). -/
def State.repairDue (s : State) : Bool := s.repair == none && s.repairQueue != []

/-- The repair engine takes the head of the repair queue and starts the search (R107, R108). -/
def State.repairTake (s : State) : State :=
  match s.repairQueue with
  | [] => s
  | i :: rest =>
    match s.contexts[i] with
    | none => { s with repairQueue := rest }
    | some c =>
      let p := s.profile c.uid.window
      let cells := unitCells p c.granules s.votes
      { s.setContext i (some { c with state := .repairing }) with
        repairQueue := rest
        repair := some ⟨i, c.uid, .searching (candidates p cells) (syndrome p (cells.map Cell.fused)) 0⟩ }

/-- The search's work on one more subset, while one is left to examine (R107, R111). -/
def State.searchOn (s : State) : State :=
  match s.repair with
  | none => s
  | some r =>
    match r.phase with
    | .searching cands syn n =>
      if n < searchLength (s.profile r.uid.window) cands syn then
        { s with repair := some { r with phase := .searching cands syn (n + 1) } }
      else s
    | .posting _ => s

/-- The steps of a repair posting (R117): chunks for REPAIRED only. -/
def repairSteps (v : Verdict) (dirty : List Nat) : List PostStep :=
  (if v = .repaired then dirty.map PostStep.chunk else []) ++ [.trailer, .notice]

/-- A final repair result (R114): verdict effects, the context DRAINING, POSTING begins. -/
def State.finishRepair (s : State) (i : Fin 32) (c : Context) (v : Verdict) : State :=
  let t := { s.setContext i (some { c with state := .draining, posting := true }) with
    repair := some ⟨i, c.uid, .posting v⟩ }
  (t.finalVerdict c.uid v).beginPosting (.repair i v) (some c.uid) (repairSteps v c.dirty)

/-- The end of SEARCHING (R113): the outcome is recorded, then the result acts under R114 or R115. -/
def State.endSearch (s : State) (i : Fin 32) (c : Context) (cands : List Nat) (syn : BitVec 32) : State :=
  let p := s.profile c.uid.window
  let found := search p cands syn
  let recorded := { c with
    lastRepair := found.1
    flips := found.2
    dirty := (List.range p.chunkCount).filter (fun j => c.dirty.contains j || (flipChunks p found.2).contains j) }
  match repairResult p found.1 c.passes (s.windows[c.uid.window].state == .closing) with
  | some v => s.finishRepair i recorded v
  | none => { s.setContext i (some { recorded with state := .opened }) with repair := none }

/-! ### Drain (R29, R31) -/

/-- An OPEN context of a pass-quiet CLOSING window is given UNSETTLED (R29); other contexts are left as they are. -/
def State.unsettle (s : State) (i : Fin 32) : State :=
  match s.contexts[i] with
  | none => s
  | some c =>
    if c.state = .opened then
      ((s.setContext i (some { c with state := .draining, posting := true })).finalVerdict c.uid
        .unsettled).beginPosting (.drain i) (some c.uid) [.trailer, .notice]
    else s

/-- The slot holds an OPEN context of a CLOSING, pass-quiet window (R29). -/
def State.unsettleDue (s : State) (i : Fin 32) : Bool :=
  match s.contexts[i] with
  | some c => c.state == .opened && s.windows[c.uid.window].state == .closing && s.passQuiet c.uid.window
  | none => false

/-- The context slots to be given UNSETTLED, of whichever window, in ascending order (R29, R129). -/
def State.unsettleSlots (s : State) : List (Fin 32) := (List.finRange 32).filter s.unsettleDue

/-- The drain of the window ends here (R31): CLOSING, no context, no pass filling, staged or folding. -/
def State.drainEnds (s : State) (w : Fin 8) : Bool :=
  s.windows[w].state == .closing && s.passQuiet w && s.windowContexts w == []

/-- The end of a drain (R31). -/
def State.endDrain (s : State) (w : Fin 8) : State := (s.windowOff w).setFlag .closed

/-! ### Override (R16 to R18) -/

/-- The override record's values at the take (R18). -/
def State.overrideRecord (s : State) (u : UnitId) : OverrideRecord :=
  let p := s.profile u.window
  match s.findContext u with
  | none => ⟨u, p.slotAddr u.unit, p.dataSize, 0, 0, 0, .none⟩
  | some i =>
    match s.contexts[i] with
    | some c => ⟨u, p.slotAddr u.unit, p.dataSize, c.passes, c.weak, c.clean, c.lastRepair⟩
    | none => ⟨u, p.slotAddr u.unit, p.dataSize, 0, 0, 0, .none⟩

/-- Stops the fold of a pass of which `p` holds (R17 step 3, R32): the pass is discarded uncounted, its buffer FREE. -/
def State.stopFold (s : State) (p : UnitId → Bool) : State :=
  match s.fold with
  | some r => if p r.pass.uid then s.endFold else s
  | none => s

/-- The engine is POSTING: an interval of R145. -/
def RepairPhase.posts : RepairPhase → Bool
  | .searching _ _ _ => false
  | .posting _ => true

/-- Ends the repair of a unit of which `p` holds (R17 step 4, R32): out of the queue, its search or posting ended. The end of
a posting makes a hold test due (R148); a search is no interval of R145. -/
def State.stopRepair (s : State) (p : UnitId → Bool) : State :=
  let t := { s with repairQueue := s.repairQueue.filter (fun i =>
    match s.contexts[i] with
    | some c => !p c.uid
    | none => true) }
  match t.repair with
  | some r => if p r.uid then { t with repair := none, testDue := t.testDue || r.phase.posts } else t
  | none => t

/-- Releases the context of a unit, when it has one (R17 step 5). -/
def State.releaseUnit (s : State) (u : UnitId) : State :=
  match s.findContext u with
  | some i => s.release i
  | none => s

/-- The changes an override makes at the take of its piece, in the order of R17 (steps 1 to 6 and 8; the record of step 7
stands on the piece). -/
def State.overrideUnit (s : State) (u : UnitId) : State :=
  let t := (s.removeEntries (· == u)).endPostings (· == u)
  let t := (t.stopFold (· == u)).stopRepair (· == u)
  (((t.releaseUnit u).settleUnit u).bump u.window .overrides).setFlag .override

/-! ### ABANDON-WINDOW (R32, R33, R57) -/

/-- Discards a lane's filling pass and late run of the window, uncounted (R57). -/
def State.abandonLane (w : Fin 8) (s : State) (k : Fin 4) : State :=
  let l := s.lanes[k]
  let l :=
    match l.filling with
    | some f =>
      if f.uid.window = w then { l.setBuffer f.buffer .free with filling := none, timer := none } else l
    | none => l
  let l := if l.runsLate w then { l with lateRun := none } else l
  s.setLane k l

/-- Removes the window's staged passes and frees their buffers (R57). -/
def State.abandonStaged (s : State) (w : Fin 8) : State :=
  let gone := s.foldQueue.filter (fun p => p.uid.window == w)
  { gone.foldl State.freePass s with foldQueue := s.foldQueue.filter (fun p => p.uid.window != w) }

/-- Every effect of ABANDON-WINDOW on the window (R32, R33). -/
def State.abandon (s : State) (w : Fin 8) : State :=
  let mine : UnitId → Bool := fun u => u.window == w
  let t := ((List.finRange 4).foldl (State.abandonLane w) s).abandonStaged w
  let t := ((t.stopFold mine).stopRepair mine).endPostings mine
  let t := (t.windowContexts w).foldl State.release t
  let t := (t.removeEntries mine).discardRecords w
  let t := t.setWindow w { t.windows[w] with settled := [] }
  t.windowOff w

end Sys2Proof.Machine
end

