-- ==== Sys2Proof/Machine/Holds.lean ====
section
/-! DEFINITION. The items a read waits for, the hold test, taking and releasing held reads (R143 to R148). -/

namespace Sys2Proof.Machine

/-- An item of R144: a byte range and the window it belongs to; a RING item belongs to none. -/
structure HoldItem where
  addr : Addr
  length : Nat
  window : Option (Fin 8)
  deriving DecidableEq, Repr

/-- The item of an ungranted entry (R144). -/
def Entry.item (e : Entry) : HoldItem := ⟨e.addr, 4 * e.beats.length, e.owner.map UnitId.window⟩

/-- The item of a slot whose posting is in progress (R144). -/
def State.slotItem (s : State) (u : UnitId) : HoldItem :=
  ⟨(s.profile u.window).slotAddr u.unit, (s.profile u.window).stride, some u.window⟩

/-- The item of a slot under an override record (R18, R145). -/
def OverrideRecord.item (r : OverrideRecord) : HoldItem := ⟨r.slotAddr, r.dataSize + 8, some r.uid.window⟩

/-- The interval items of the fold engine (R145): from the fold start to the fold's end. -/
def State.foldItems (s : State) : List HoldItem :=
  match s.fold with
  | some r => [s.slotItem r.pass.uid]
  | none => []

/-- The interval item of the repair engine (R145): while it is POSTING. -/
def State.repairItems (s : State) : List HoldItem :=
  match s.repair with
  | some r =>
    match r.phase with
    | .posting _ => [s.slotItem r.uid]
    | .searching _ _ _ => []
  | none => []

/-- The interval item of a drain or override posting not yet complete (R145). -/
def State.postingItem (s : State) (x : Posting) : Option HoldItem :=
  match x.poster with
  | .drain _ => x.owner.map s.slotItem
  | .override r => some r.item
  | .fold _ _ => none
  | .raw _ _ => none
  | .repair _ _ => none
  | .backlog => none

/-- Every item of R144 as it stands. -/
def State.holdItems (s : State) : List HoldItem :=
  s.queue.map Entry.item ++ s.foldItems ++ s.repairItems ++ s.postings.filterMap s.postingItem
    ++ s.through.filterMap (fun t => t.record.map OverrideRecord.item)

/-- The limit an item brings (R146); an item of a window whose hold limit stands at 0 is disregarded (R144). -/
def State.itemLimit (s : State) (i : HoldItem) : Nat :=
  match i.window with
  | some w => (s.profile w).holdLimit
  | none => Config.ringHoldLimit

/-- The counted overlaps of a read (R144). -/
def State.overlaps (s : State) (a : Addr) (count : Nat) : List HoldItem :=
  s.holdItems.filter (fun i => bytesOverlap a (4 * count) i.addr i.length && s.itemLimit i != 0)

/-- The smallest limit brought (R146). -/
def State.holdLimit (s : State) (items : List HoldItem) : Nat :=
  items.foldl (fun m i => min m (s.itemLimit i)) Config.ringHoldLimit

/-- The lowest-numbered window that brought the limit; absent when RING items alone did (R146). -/
def State.countingWindow (s : State) (items : List HoldItem) : Option (Fin 8) :=
  (List.finRange 8).find?
    (fun w => items.any (fun i => i.window == some w && s.itemLimit i == s.holdLimit items))

/-- The hold record of a read at its take, when it has a counted overlap (R146, R147). -/
def State.newHold (s : State) (a : Addr) (count : Nat) : Option HoldRecord :=
  match s.overlaps a count with
  | [] => none
  | i :: is =>
    some ⟨a, count, s.holdLimit (i :: is), s.holdLimit (i :: is), s.countingWindow (i :: is)⟩

/-- The test of one held read (R148): with no counted overlap left it is released. -/
def State.testHold (s : State) (k : Fin 4) : State :=
  match s.holds[k] with
  | some h => if s.overlaps h.addr h.count = [] then s.setHold k none else s
  | none => s

/-- The hold test that an event has made due, on every held read (R148). -/
def State.testHolds (s : State) : State :=
  if s.testDue then { (List.finRange 4).foldl State.testHold s with testDue := false } else s

/-- The hold list holds at least one read (R137 rule 2). -/
def State.anyHeld (s : State) : Bool := (List.finRange 4).any (fun k => s.holds[k] != none)

end Sys2Proof.Machine
end

