-- ==== Sys2Proof/Machine/Lanes.lean ====
section
/-! DEFINITION. What a lane does with a capture beat (R42 to R54). -/

namespace Sys2Proof.Machine

/-- The idle timer as started or restarted under an idle limit: stopped under limit 0 (R43, R44, R50). -/
def idleStart (limit : Nat) : Option Nat := if limit = 0 then none else some limit

/-- The tear of a lane's filling pass (R52); without a filling pass nothing is torn. -/
def State.tear (s : State) (k : Fin 4) : State :=
  match s.lanes[k].filling with
  | none => s
  | some f =>
    ((s.setLane k { s.lanes[k].setBuffer f.buffer .free with filling := none, timer := none }).bump
      f.uid.window .passesTorn).setFlag .torn

/-- An orphan beat in the window (R46). -/
def State.orphan (s : State) (w : Fin 8) : State := (s.bump w .passesTorn).setFlag .torn

/-- Ends a lane's late run without count (R42, R54). -/
def State.endLateRun (s : State) (k : Fin 4) : State := s.setLane k { s.lanes[k] with lateRun := none }

/-- A pass start in a FREE buffer (R43); `none` when the lane has no FREE buffer and withholds the beat (R48). -/
def State.startPass (s : State) (k : Fin 4) (u : UnitId) (q : Quad) : Option State :=
  match s.lanes[k].freeBuffer with
  | none => none
  | some b =>
    some (s.setLane k { s.lanes[k].setBuffer b (.filling q.bytes) with
      filling := some ⟨u, 4, b⟩, lateRun := none, timer := idleStart (s.profile u.window).idleLimit })

/-- An appended beat at offset `o` of the filling pass (R44), which completes the pass at D + 4 (R45). -/
def State.appendBeat (s : State) (k : Fin 4) (f : Filling) (o : Nat) (q : Quad) : State :=
  let content := (s.lanes[k].buffer f.buffer).content ++ q.bytes
  let p := s.profile f.uid.window
  if o = p.dataSize then
    let t := s.setLane k { s.lanes[k].setBuffer f.buffer (.staged content) with filling := none, timer := none }
    { t with foldQueue := t.foldQueue ++ [⟨k, f.buffer, f.uid⟩] }
  else
    s.setLane k { s.lanes[k].setBuffer f.buffer (.filling content) with
      filling := some { f with expected := o + 4 }, timer := idleStart p.idleLimit }

/-- A late pass begins (R53). -/
def State.beginLate (s : State) (k : Fin 4) (u : UnitId) : State :=
  ((s.setLane k { s.lanes[k] with lateRun := some ⟨u, 4⟩ }).bump u.window .passesLate).setFlag .late

/-- A beat continues the late run at offset `o` (R54). -/
def State.continueLate (s : State) (k : Fin 4) (u : UnitId) (o : Nat) (allOn : Bool) : State :=
  if allOn ∧ o ≠ (s.profile u.window).dataSize then s.setLane k { s.lanes[k] with lateRun := some ⟨u, o + 4⟩ }
  else s.endLateRun k

/-- The filling pass that a beat at offset `o` of the unit matches (R42 cases 4 and 5). -/
def Lane.expects (l : Lane) (u : UnitId) (o : Nat) : Option Filling :=
  match l.filling with
  | some f => if f.uid = u ∧ f.expected = o then some f else none
  | none => none

/-- A lane deals with a capture beat by the first case of R42 that applies; `none` when it withholds the beat (R48).
`closing` is the window state read by the beat's classification. -/
def State.laneBeat (s : State) (k : Fin 4) (u : UnitId) (o : Nat) (closing : Bool) (b : Beat) : Option State :=
  if o = 0 then
    if closing then some (((s.tear k).endLateRun k).beginLate k u)
    else if b.enables.all then (s.tear k).startPass k u b.data
    else some (((s.tear k).endLateRun k).orphan u.window)
  else
    match s.lanes[k].expects u o with
    | some f => if b.enables.all then some (s.appendBeat k f o b.data) else some (s.tear k)
    | none =>
      if s.lanes[k].lateRun = some ⟨u, o⟩ then some (s.continueLate k u o b.enables.all)
      else some (s.orphan u.window)

end Sys2Proof.Machine
end

