-- ==== Sys2Proof/Decode.lean ====
section
/-! DEFINITION. The bytes of a maintenance command in its frame, read and written (R170, R175, R187), and the command a table
word spells: no row of spec/opcode_table.json gives bits (log 12). -/

namespace Sys2Proof

/-! ### Numbers, least significant byte first (R170) -/

/-- The number of two bytes. -/
def word16 (b0 b1 : Byte) : BitVec 16 := b1 ++ b0

/-- The number of four bytes. -/
def word32 (b0 b1 b2 b3 : Byte) : BitVec 32 := b3 ++ b2 ++ b1 ++ b0

/-- The two bytes of a number. -/
def bytesOf16 (x : BitVec 16) : List Byte := [x.setWidth 8, (x >>> 8).setWidth 8]

/-- The four bytes of a number. -/
def bytesOf32 (x : BitVec 32) : List Byte :=
  [x.setWidth 8, (x >>> 8).setWidth 8, (x >>> 16).setWidth 8, (x >>> 24).setWidth 8]

/-! ### Commands in a frame -/

/-- The command of a known code with exactly its argument bytes (R175). -/
def knownCommand (code : Nat) (args : List Byte) : Option Instr :=
  match code, args with
  | 0x01, [] => some .readStatus
  | 0x02, [] => some .readFlags
  | 0x03, [m0, m1] => some (.clearFlags (word16 m0 m1))
  | 0x04, [e0, e1] => some (.setEnables (word16 e0 e1))
  | 0x10, [w, field, v0, v1, v2, v3] => some (.writeProfile w field (word32 v0 v1 v2 v3))
  | 0x11, [w, field] => some (.readProfile w field)
  | 0x12, [w] => some (.openWindow w)
  | 0x13, [w] => some (.closeWindow w)
  | 0x14, [w] => some (.abandonWindow w)
  | 0x18, [w] => some (.readCounters w)
  | 0x19, [w] => some (.clearCounters w)
  | 0x20, [w, u0, u1] => some (.queryUnit w (word16 u0 u1))
  | 0x21, [w, u0, u1] => some (.reopenUnit w (word16 u0 u1))
  | 0x30, [b0, b1, b2, b3, e0, e1, e2, e3] => some (.setRing (word32 b0 b1 b2 b3) (word32 e0 e1 e2 e3))
  | 0x31, [] => some .ringEnable
  | 0x32, [] => some .ringDisable
  | 0x33, [p0, p1, p2, p3] => some (.ringConsumed (word32 p0 p1 p2 p3))
  | 0x34, [] => some .readRing
  | 0x38, [] => some .readFault
  | 0x39, [] => some .clearFault
  | 0x3F, [] => some .coreReset
  | _, _ => none

/-- The command that the bytes in from byte 0 on complete; `none` while argument bytes are still to come. An unknown code
takes none (R174). -/
def decodeFrame : List Byte → Option Instr
  | [] => none
  | code :: args =>
    if codeUnknown code then (if args = [] then some (.badcmd code) else none) else knownCommand code.toNat args

/-- The bytes that send a maintenance command: its code and its arguments (R175); none for the other commands. -/
def Instr.frameBytes : Instr → List Byte
  | .readStatus => [0x01]
  | .readFlags => [0x02]
  | .clearFlags mask => 0x03 :: bytesOf16 mask
  | .setEnables value => 0x04 :: bytesOf16 value
  | .writeProfile window field value => 0x10 :: window :: field :: bytesOf32 value
  | .readProfile window field => [0x11, window, field]
  | .openWindow window => [0x12, window]
  | .closeWindow window => [0x13, window]
  | .abandonWindow window => [0x14, window]
  | .readCounters window => [0x18, window]
  | .clearCounters window => [0x19, window]
  | .queryUnit window unit => 0x20 :: window :: bytesOf16 unit
  | .reopenUnit window unit => 0x21 :: window :: bytesOf16 unit
  | .setRing ringBegin ringEnd => 0x30 :: (bytesOf32 ringBegin ++ bytesOf32 ringEnd)
  | .ringEnable => [0x31]
  | .ringDisable => [0x32]
  | .ringConsumed pointer => 0x33 :: bytesOf32 pointer
  | .readRing => [0x34]
  | .readFault => [0x38]
  | .clearFault => [0x39]
  | .coreReset => [0x3F]
  | .badcmd code => [code]
  | .requestTake _ => []
  | .grant => []
  | .throughResponse _ _ => []
  | .writeBackAnswer _ => []
  | .idleExpiry _ => []
  | .holdExpiry _ => []
  | .foldStart => []
  | .settleEvaluation => []
  | .entryEntersQueue => []
  | .noticeAccepted => []
  | .repairTake => []
  | .endOfSearching => []
  | .frameEnd => []
  | .pinResetAssert => []
  | .pinResetDeassert _ => []
  | .ready => []
  | .frameOpen => []
  | .timebaseTick => []

/-! ### Table words -/

/-- The command that `nbits` bits `w` spell by the table's bits: the table gives bits to no row, so none. -/
def decodeTableWord (_nbits _w : Nat) : Option Instr := none

end Sys2Proof
end

