-- ==== Sys2Proof/Machine/Port.lean ====
section
/-! DEFINITION. The serial lines of the maintenance port: the edges of MCLK, the bytes in, the bit on MDO (R169, R170, log 7). -/

namespace Sys2Proof.Machine

/-- The byte of eight bits, most significant first (R169). -/
def byteOfBits (bits : List Bool) : Byte := (wordOfBits bits).setWidth 8

/-- A rising edge of MCLK in a frame (R169, R170): MDI is sampled, the eighth bit completes a byte in, and a byte that completes
the frame's command gives that command. Bits that come after the command has taken effect are ignored. -/
def Frame.clockIn (f : Frame) (mdi : Bool) : Frame × Option Instr :=
  match f.reply with
  | some _ => (f, none)
  | none =>
    let bits := f.shift ++ [mdi]
    if bits.length < 8 then ({ f with shift := bits }, none)
    else
      let bytes := f.received ++ [byteOfBits bits]
      ({ f with shift := [], received := bytes }, decodeFrame bytes)

/-- A falling edge of MCLK in a frame: the next bit is presented, at each of them (R169). With MCLK high at the opening the
first one comes before any bit in and counts as well: the model's choice, log 19. -/
def Frame.clockOut (f : Frame) : Frame := { f with bitsOut := f.bitsOut + 1 }

/-- The command that edges of MCLK bring in the frame, if they bring one. -/
def Frame.commandOf (f : Frame) : List MclkEdge → Option Instr
  | [] => none
  | .fall :: rest => f.clockOut.commandOf rest
  | .rise mdi :: rest => (f.clockIn mdi).2.or ((f.clockIn mdi).1.commandOf rest)

/-- The command that comes next in the frame in progress: the next in the queue, or on an empty queue the one that the waiting
edges of MCLK bring. None without a frame, or in one whose command has taken effect. -/
def State.nextInFrame (s : State) : Option Instr :=
  match s.frame, s.pending with
  | none, _ => none
  | some f, c :: _ => if f.reply = none then some c else none
  | some f, [] => f.commandOf s.mclk

/-- An edge of MCLK, with the command whose last bit it brings. Outside a frame it is ignored (R169). -/
def State.clock (s : State) (e : MclkEdge) : State × Option Instr :=
  match s.frame with
  | none => (s, none)
  | some f =>
    match e with
    | .rise mdi => ({ s with frame := some (f.clockIn mdi).1 }, (f.clockIn mdi).2)
    | .fall => ({ s with frame := some f.clockOut }, none)

/-- The bit on MDO: the most significant bit first of each byte out. -/
def Frame.bitOut (f : Frame) : Bool := (f.outByte (f.bitsOut / 8)).getLsbD (7 - f.bitsOut % 8)

/-- MDO: released without a frame, else the bit that the opening of the frame or the last falling edge of MCLK presented
(R169, R171). -/
def State.mdo (s : State) : Option Bool := s.frame.map Frame.bitOut

end Sys2Proof.Machine
end

