-- ==== Sys2Proof/Machine/AtOnce.lean ====
section
/-! DEFINITION. What one event brings about at once: beats of a write dealt with as far as they go, the drain of a CLOSING
window, the feeding of the write-back queue, the engines' takes, and at the end the hold test (log 2). -/

namespace Sys2Proof.Machine

/-! ### Dealing with the beats of a taken write (R8 to R12, R15 to R17) -/

/-- Changes the record of an initiator's taken request. -/
def State.modifyActive (s : State) (k : Fin 4) (f : Active → Active) : State :=
  { s with active := s.active.map (fun a => if a.initiator = k then f a else a) }

/-- Gives an initiator its response (R2); the request is answered and its record ends (R3). -/
def State.respond (s : State) (k : Fin 4) (r : Response) : State :=
  { s with
    responses := s.responses.set k (some r)
    active := s.active.filter (fun a => a.initiator != k) }

/-- The combined response of a write (R13). -/
def Active.writeResponse (a : Active) : Response := ⟨if a.faulted then .fault else .okay, []⟩

/-- A write whose beats are all dealt with and whose forwarded pieces are all answered gets its response (R13). -/
def State.answerIfDone (s : State) (a : Active) : State :=
  if a.waiting = [] ∧ a.inFlight = 0 then s.respond a.initiator a.writeResponse else s

/-- The first `n` waiting beats of a write have been dealt with, `pieces` of them forwarded as one piece each. -/
def State.dealt (s : State) (a : Active) (n pieces : Nat) : State :=
  let a' := { a with
    waiting := a.waiting.drop n, inFlight := a.inFlight + pieces, stalled := a.stalled && a.waiting.drop n != [] }
  (s.modifyActive a.initiator (fun _ => a')).answerIfDone a'

/-- The waiting beats that form the next piece (R8). -/
def nextPiece (b : WaitingBeat) (rest : List WaitingBeat) : List WaitingBeat :=
  b :: rest.takeWhile (fun x => b.cls.samePiece x.cls)

/-- The unit a forwarded piece overrides (R16): the one of its slot, when an enabled byte lies in the data or check field. -/
def overridden (b : WaitingBeat) (piece : List WaitingBeat) : Option UnitId :=
  match b.cls with
  | .outside => none
  | .slot u _ _ _ _ => if piece.any WaitingBeat.overrides then some u else none

/-- A through-transaction joins the tail of the through order (R12). -/
def State.joinThrough (s : State) (t : Through) : State := { s with through := s.through ++ [t] }

/-- The next piece of a write is forwarded: it joins the through order (R12) and, when it overrides its slot, makes the
changes of R17 and carries the override record. -/
def State.forwardPiece (s : State) (a : Active) (b : WaitingBeat) (rest : List WaitingBeat) : State :=
  let piece := nextPiece b rest
  match overridden b piece with
  | none => (s.joinThrough ⟨a.initiator, b.addr, .write (piece.map WaitingBeat.beat), none⟩).dealt a piece.length 1
  | some u =>
    ((s.joinThrough ⟨a.initiator, b.addr, .write (piece.map WaitingBeat.beat), some (s.overrideRecord u)⟩).dealt
      a piece.length 1).overrideUnit u

/-- The command that comes next in the frame in progress is an ABANDON-WINDOW of the window. -/
def State.abandonMeets (s : State) (w : Fin 8) : Bool :=
  match s.nextInFrame with
  | some (.abandonWindow window) => window.toNat == w.val
  | _ => false

/-- R49, first row: the lane has taken the waiting beat of a stalled write as the start of a pass, and the ABANDON-WINDOW
that meets this event comes before the later beats of the request (log 18). -/
def State.meetsAbandon (s : State) (a : Active) (u : UnitId) (o : Nat) : Bool :=
  a.stalled && o != 0 && (s.lanes[a.initiator].expects u o).isSome && s.abandonMeets u.window

/-- One beat or piece of a taken write is dealt with; `none` when nothing waits, when the lane withholds the beat (R10), or
when the beat waits for an abandon that comes first (R49). -/
def State.advance (s : State) (a : Active) : Option State :=
  match a.waiting with
  | [] => none
  | b :: rest =>
    match b.cls with
    | .slot u o region true closing =>
      if s.meetsAbandon a u o then none
      else if region = .verdict then some (s.dealt a 1 0)
      else (s.laneBeat a.initiator u o closing b.beat).map (fun t => t.dealt a 1 0)
    | .slot _ _ _ false _ => some (s.forwardPiece a b rest)
    | .outside => some (s.forwardPiece a b rest)

/-! ### At-once steps, in the order of log 2 -/

/-- The beats of taken writes, the oldest taken request first (R10, R12, R48). -/
def State.atOnceBeats (s : State) : Option State := s.active.findSome? s.advance

/-- The drain's verdicts, those of one event in ascending context slot order whatever their windows (R29, R129); then the
ends of drains (R31), lowest-numbered window first. -/
def State.atOnceDrain (s : State) : Option State :=
  match s.unsettleSlots with
  | i :: is => some ((i :: is).foldl State.unsettle s)
  | [] => ((List.finRange 8).find? s.drainEnds).map s.endDrain

/-- A backlog posting is in progress (R155). -/
def State.movingBacklog (s : State) : Bool := s.postings.any (fun x => x.poster == .backlog)

/-- The begin of a backlog posting (R162). -/
def State.atOnceBacklog (s : State) : Option State :=
  if s.ring.enabled && !s.ring.full && s.ring.backlog != [] && !s.movingBacklog then
    some (s.beginPosting .backlog none [.notice])
  else none

/-- The takes of the idle engines (R56, R107). -/
def State.atOnceTake (s : State) : Option State :=
  if s.repairDue then some s.repairTake
  else if s.foldDue then some s.foldStart
  else none

/-- The next at-once step, if one is due (log 2): the first of these kinds that has one. -/
def State.atOnce (s : State) : Option State :=
  s.atOnceBeats.or (s.atOnceTake.or (s.atOnceDrain.or (s.atOnceBacklog.or s.feed)))

/-- At-once steps until none is due. -/
def State.drive : Nat → State → State
  | 0, s => s
  | n + 1, s =>
    match s.atOnce with
    | none => s
    | some t => State.drive n t

/-! ### The end of an event -/

/-- Where an initiator's request stands in take order. -/
def State.takeRank (s : State) (t : Through) : Nat := s.active.findIdx (fun a => a.initiator == t.initiator)

/-- Inserts a through-transaction behind those of requests taken no later. -/
def insertByRank (rank : Through → Nat) (t : Through) : List Through → List Through
  | [] => [t]
  | u :: us => if rank t < rank u then t :: u :: us else u :: insertByRank rank t us

/-- Through-transactions that joined at this event, those after the first `n`, stand in the order their requests were
taken (R12). -/
def State.orderJoined (s : State) (n : Nat) : State :=
  { s with through := s.through.take n
      ++ (s.through.drop n).foldl (fun acc t => insertByRank s.takeRank t acc) [] }

/-- A write with beats waiting is stalled (R10). -/
def Active.markStalled (a : Active) : Active := if a.waiting = [] then a else { a with stalled := true }

/-- The writes that the event leaves waiting are stalled (R10). -/
def State.markStalled (s : State) : State := { s with active := s.active.map Active.markStalled }

/-- Everything an event brings about at once, then the hold test if one is due (R148: made against the items as they
stand after the event has had its other effects). -/
def State.settle (s : State) : State :=
  ((State.drive Config.stepFuel s).orderJoined s.through.length).markStalled.testHolds

/-- No at-once step is due: the state between events (R130, R56, R107). -/
def State.Quiet (s : State) : Prop := s.atOnce = none

end Sys2Proof.Machine
end

