-- ==== Sys2Proof/Machine/Bus.lean ====
section
/-! DEFINITION. The bus commands: REQUEST_TAKE, GRANT, THROUGH_RESPONSE, WRITE_BACK_ANSWER (chapters 1, 7 and 8). -/

namespace Sys2Proof.Machine

/-! ### REQUEST_TAKE -/

/-- The initiator's previous request is unanswered (R3). -/
def State.busyInitiator (s : State) (k : Fin 4) : Bool := s.active.any (fun a => a.initiator == k)

/-- A read is taken (R12, R14, R146): it joins the through order, held when it has a counted overlap. -/
def State.takeRead (s : State) (k : Fin 4) (a : Addr) (count : Nat) : State :=
  { (s.joinThrough ⟨k, a, .read count, none⟩).setHold k (s.newHold a count) with
    active := s.active ++ [⟨k, [], 1, false, false, false⟩] }

/-- A write is taken: its beats are classified (R4) and wait to be dealt with in order (R8). -/
def State.takeWrite (s : State) (k : Fin 4) (a : Addr) (beats : List Beat) : State :=
  { s with active := s.active ++ [⟨k, classifyBeats s.windows k a beats, 0, false, false, false⟩] }

/-- REQUEST_TAKE (R3, R4, R180): before the part is ready, and while the initiator's previous request is unanswered, the
request stays untaken at the initiator port and nothing changes (log 1). -/
def execRequestTake (req : Request) (s : State) : Host.Outcome State Fault Refusal :=
  if !req.wf then .refused .malformedRequest
  else if s.run != .ready || s.busyInitiator req.initiator then .next s
  else
    match req.transfer with
    | .read count => .next (s.takeRead req.initiator req.addr count)
    | .write beats => .next (s.takeWrite req.initiator req.addr beats).settle

/-! ### GRANT -/

/-- A through-transaction is forwardable when it is not a held read (R12, R143). -/
def State.forwardable (s : State) (t : Through) : Bool :=
  match t.transfer with
  | .read _ => s.holds[t.initiator] == none
  | .write _ => true

/-- The first element of which `p` holds, and the list without it. -/
def takeFirst {α : Type} (p : α → Bool) : List α → Option (α × List α)
  | [] => none
  | x :: xs => if p x then some (x, xs) else (takeFirst p xs).map (fun r => (r.1, x :: r.2))

/-- The through candidate, the oldest forwardable through-transaction, with the rest of the through order (R136). -/
def State.throughCandidate (s : State) : Option (Through × List Through) := takeFirst s.forwardable s.through

/-- A beat of the part's own writes: all byte enables on (R1). -/
def ownBeat (q : Quad) : Beat := ⟨q, ⟨true, true, true, true⟩⟩

/-- One entry of the context is granted (R67, R131). -/
def Context.countOut (c : Context) : Context := { c with outstanding := c.outstanding - 1 }

/-- The owner's context counts a granted entry out, and is released when R76 says so (R131 step 2). -/
def State.countOut (s : State) (e : Entry) : State :=
  match e.counted, e.owner with
  | true, some u =>
    match s.findContext u with
    | some i => (s.modifyContext i Context.countOut).releaseIfDone i
    | none => s
  | _, _ => s

/-- The request an entry is issued as: a write under initiator ID 4 (R136). -/
def Entry.issue (e : Entry) : Issued := ⟨.writeBack e.kind, e.addr, .write (e.beats.map ownBeat)⟩

/-- The head of the write-back queue is granted (R131): issued under ID 4, run count 0, the owner's count falls. -/
def State.grantEntry (s : State) (e : Entry) (rest : List Entry) : State :=
  { s with
    queue := rest
    runCount := 0
    issued := s.issued ++ [e.issue]
    testDue := true }.countOut e

/-- A through-transaction is granted (R12, R136, R138). -/
def State.grantThrough (s : State) (t : Through) (rest : List Through) : State :=
  { s with
    through := rest
    issued := s.issued ++ [⟨.initiator t.initiator, t.addr, t.transfer⟩]
    runCount := if s.queue = [] then s.runCount else s.runCount + 1 }

/-- The override posting of a granted piece begins (R18). -/
def State.postOverride (s : State) (r : OverrideRecord) : State :=
  s.beginPosting (.override r) (some r.uid) [.trailer, .notice]

/-- The grant of a through-transaction, with the override posting of a piece that carries a record (R18). -/
def State.afterThrough (s : State) (t : Through) (rest : List Through) : State :=
  match t.record with
  | none => s.grantThrough t rest
  | some r => ((s.grantThrough t rest).postOverride r).settle

/-- Rules 2 and 3 of R137: with both candidates waiting, the queue head is granted. -/
def State.queueFirst (s : State) : Bool :=
  s.anyHeld || Config.queueHigh ≤ s.queue.length || s.runCount == Config.runLimit

/-- One grant by the arbiter (R136, R137); without a candidate none is made. -/
def State.arbitrate (s : State) : State :=
  match s.throughCandidate, s.queue with
  | none, [] => s
  | none, e :: q => (s.grantEntry e q).settle
  | some (t, rest), [] => s.afterThrough t rest
  | some (t, rest), e :: q => if s.queueFirst then (s.grantEntry e q).settle else s.afterThrough t rest

/-- GRANT (R136, R137): the memory controller is ready to accept one request. None is issued while RESET_N is low (R179). -/
def execGrant (s : State) : Host.Outcome State Fault Refusal :=
  if s.run == .held then .next s else .next s.arbitrate

/-! ### Answers from memory -/

/-- The issued request is a forwarded one. -/
def Issued.isThrough (x : Issued) : Bool :=
  match x.source with
  | .initiator _ => true
  | .writeBack _ => false

/-- The issued request is one of the part's own writes. -/
def Issued.isWriteBack (x : Issued) : Bool := !x.isThrough

/-- The code a read is answered with (R13, R149). -/
def readCode (stale : Bool) (code : MemCode) : ResponseCode :=
  match code with
  | .fault => .fault
  | .okay => if stale then .stale else .okay

/-- Memory has answered a forwarded piece of a write (R13). -/
def Active.pieceAnswered (a : Active) (code : MemCode) : Active :=
  { a with inFlight := a.inFlight - 1, faulted := a.faulted || code == .fault }

/-- The answer is routed to the initiator of the request (R13). -/
def State.routeAnswer (s : State) (k : Fin 4) (transfer : Transfer) (code : MemCode) (data : List Quad) : State :=
  match s.active.find? (fun a => a.initiator == k) with
  | none => s
  | some a =>
    match transfer with
    | .read _ => s.respond k ⟨readCode a.stale code, data⟩
    | .write _ => (s.modifyActive k (fun _ => a.pieceAnswered code)).answerIfDone (a.pieceAnswered code)

/-- THROUGH_RESPONSE (R13): memory answers the oldest unanswered forwarded request. An answer that belongs to no request is
not taken (R20, log 9). -/
def execThroughResponse (code : MemCode) (data : List Quad) (s : State) : Host.Outcome State Fault Refusal :=
  match takeFirst Issued.isThrough s.issued with
  | none => .next s
  | some (x, rest) =>
    match x.source with
    | .initiator k => .next ({ s with issued := rest }.routeAnswer k x.transfer code data)
    | .writeBack _ => .next s

/-- A FAULT answer to one of the part's own writes: the FAULT flag, and the fault record when empty (R134, R135). -/
def State.faultOnWrite (s : State) (a : Addr) (kind : EntryKind) : State :=
  { s.setFlag .fault with faultRecord := some (s.faultRecord.getD ⟨a, kind⟩) }

/-- WRITE_BACK_ANSWER (R134): memory answers the oldest unanswered write of the part's own. -/
def execWriteBackAnswer (code : MemCode) (s : State) : Host.Outcome State Fault Refusal :=
  match takeFirst Issued.isWriteBack s.issued with
  | none => .next s
  | some (x, rest) =>
    match code, x.source with
    | .fault, .writeBack kind => .next ({ s with issued := rest }.faultOnWrite x.addr kind)
    | .fault, .initiator _ => .next s
    | .okay, _ => .next { s with issued := rest }

end Sys2Proof.Machine
end

