-- ==== Sys2Proof/Machine/EngineSteps.lean ====
section
/-! DEFINITION. The engine commands: FOLD_START, SETTLE_EVALUATION, ENTRY_ENTERS_QUEUE, NOTICE_ACCEPTED, REPAIR_TAKE,
END_OF_SEARCHING. A step that is not due changes nothing (log 1); each takes what it brings about at once (log 2). -/

namespace Sys2Proof.Machine

/-- FOLD_START (R56, R81). -/
def execFoldStart (s : State) : Host.Outcome State Fault Refusal :=
  if s.foldDue then .next s.foldStart.settle else .next s

/-- SETTLE_EVALUATION (R93): ends UPDATING. -/
def execSettleEvaluation (s : State) : Host.Outcome State Fault Refusal :=
  match s.fold with
  | none => .next s
  | some r =>
    match r.phase with
    | .updating i =>
      match s.contexts[i] with
      | some c => .next (s.evaluate r.pass i c).settle
      | none => .fault .inconsistentRecord
    | .posting _ _ => .next s
    | .raw _ => .next s

/-- The feeding posting's next step is its notice. -/
def State.feedsNotice (s : State) : Bool :=
  match s.postings with
  | [] => false
  | x :: _ => x.steps.head? == some .notice

/-- The feeding posting takes its next step, if it can, with all that follows at once. -/
def State.feedNow (s : State) : State :=
  match s.feed with
  | some t => t.settle
  | none => s

/-- ENTRY_ENTERS_QUEUE (R129): the next CHUNK or TRAILER entry of the feeding posting. -/
def execEntryEntersQueue (s : State) : Host.Outcome State Fault Refusal :=
  if s.feedsNotice then .next s else .next s.feedNow

/-- NOTICE_ACCEPTED (R160): the notice of the feeding posting. -/
def execNoticeAccepted (s : State) : Host.Outcome State Fault Refusal :=
  if s.feedsNotice then .next s.feedNow else .next s

/-- REPAIR_TAKE (R107). -/
def execRepairTake (s : State) : Host.Outcome State Fault Refusal :=
  if s.repairDue then .next s.repairTake.settle else .next s

/-- END_OF_SEARCHING (R113): the subsets not yet examined are examined, and the outcome is decided (log 8). -/
def execEndOfSearching (s : State) : Host.Outcome State Fault Refusal :=
  match s.repair with
  | none => .next s
  | some r =>
    match r.phase with
    | .searching cands syn _ =>
      match s.contexts[r.slot] with
      | some c => .next (s.endSearch r.slot c cands syn).settle
      | none => .fault .inconsistentRecord
    | .posting _ => .next s

end Sys2Proof.Machine
end

