-- ==== Sys2Proof/Machine/Maintenance.lean ====
section
/-! DEFINITION. The maintenance commands (R170 to R177 and the rules that own each command). -/

namespace Sys2Proof.Machine

/-! ### Taking effect (R170, R172, R174) -/

/-- What a command does: the state after, the result, the response data. -/
structure Effect where
  state : State
  result : Result
  data : List Byte
  deriving DecidableEq, Repr

/-- A refusal or a read: nothing but the answer. -/
def State.answer (s : State) (r : Result) (data : List Byte) : Effect := ⟨s, r, data⟩

/-- A command takes effect in the frame in progress, when none has taken effect in it yet (R170): its reply is presented and
the last-result indicator follows the result (R172). Without such a frame nothing takes effect (R169, R170, log 1). The
effect is made with the frame set aside: a frame takes no second command. -/
def State.command (s : State) (args : Nat) (effect : State → Effect) : State :=
  match s.frame with
  | none => s
  | some f =>
    match f.reply with
    | some _ => s
    | none =>
      let e := effect { s with frame := none }
      { e.state with frame := some (f.answered ⟨args, e.result, e.data⟩), lastRefused := e.result.refused }

/-- A command that names a window: refused with BADWIN when the number is above 7, before any other check (R174). -/
def State.windowCommand (s : State) (args : Nat) (w : Byte) (effect : Fin 8 → State → Effect) : State :=
  s.command args (fun t => if h : w.toNat < 8 then effect ⟨w.toNat, h⟩ t else t.answer .badWin [])

/-! ### Status, flags, faults -/

/-- The window-state number of R186. -/
def State.stateNumber (s : State) : Nat :=
  (List.finRange 8).foldl (fun n w => n + s.windows[w].state.code * 4 ^ w.val) 0

/-- The context slots in use (R60). -/
def State.slotsUsed (s : State) : Nat := (List.finRange 32).countP (fun i => s.contexts[i] != none)

/-- The held reads (R143). -/
def State.heldReads (s : State) : Nat := (List.finRange 4).countP (fun k => s.holds[k] != none)

/-- The status report (R176, R186). -/
def State.statusReport (s : State) : List Byte :=
  bytes2 s.stateNumber ++ [byteOf s.slotsUsed] ++ bytes2 s.freeList.length
    ++ [byteOf s.foldQueue.length, byteOf s.repairQueue.length, byteOf s.queue.length, byteOf s.heldReads,
        byteOf s.ring.backlog.length, byteOf s.resetCause.code]

/-- READ-STATUS (R176, R172). -/
def execReadStatus (s : State) : Host.Outcome State Fault Refusal :=
  .next (s.command 0 (fun t => ⟨{ t with resetSince := false }, .ok, t.statusReport⟩))

/-- READ-FLAGS (R167, R186). -/
def execReadFlags (s : State) : Host.Outcome State Fault Refusal :=
  .next (s.command 0 (fun t => t.answer .ok (bytes2 t.flags.toNat ++ bytes2 t.enables.toNat)))

/-- CLEAR-FLAGS (R167). -/
def execClearFlags (mask : BitVec 16) (s : State) : Host.Outcome State Fault Refusal :=
  .next (s.command 2 (fun t => ⟨{ t with flags := clearMask t.flags mask }, .ok, []⟩))

/-- SET-ENABLES (R167): bits 12 to 15 ignored. -/
def execSetEnables (value : BitVec 16) (s : State) : Host.Outcome State Fault Refusal :=
  .next (s.command 2 (fun t => ⟨{ t with enables := value.setWidth 12 }, .ok, []⟩))

/-- The fault record's bytes (R177, R186). -/
def faultBytes : Option FaultRecord → List Byte
  | some r => 1 :: bytes4 r.addr ++ [byteOf r.kind.code]
  | none => 0 :: bytes4 0 ++ [0]

/-- READ-FAULT (R177). -/
def execReadFault (s : State) : Host.Outcome State Fault Refusal :=
  .next (s.command 0 (fun t => t.answer .ok (faultBytes t.faultRecord)))

/-- CLEAR-FAULT (R177). -/
def execClearFault (s : State) : Host.Outcome State Fault Refusal :=
  .next (s.command 0 (fun t => ⟨{ t with faultRecord := none }, .ok, []⟩))

/-- CORE-RESET (R178): OK, and the core reset is due at the end of its frame. -/
def execCoreReset (s : State) : Host.Outcome State Fault Refusal :=
  match s.frame with
  | none => .next s
  | some f =>
    match f.reply with
    | some _ => .next s
    | none => .next { s with frame := some { f.answered ⟨0, .ok, []⟩ with coreReset := true }, lastRefused := false }

/-- BADCMD (R174): an unknown code takes effect at the end of byte 0 with result BADCMD and no other effect. -/
def execBadcmd (code : Byte) (s : State) : Host.Outcome State Fault Refusal :=
  if codeUnknown code then .next (s.command 0 (fun t => t.answer .badCmd [])) else .refused .knownCommandCode

/-! ### Windows -/

/-- WRITE-PROFILE's effect (R23). -/
def State.writeProfile (s : State) (w : Fin 8) (id : Nat) (v : BitVec 32) : Effect :=
  if s.windows[w].state = .off then
    let r := (s.profile w).writeField id v
    ⟨s.setWindow w { s.windows[w] with profile := r.2 }, r.1, bytes4 ((r.2.field id).getD 0)⟩
  else s.answer .busy (bytes4 (((s.profile w).field id).getD 0))

/-- WRITE-PROFILE (R23). -/
def execWriteProfile (window field : Byte) (value : BitVec 32) (s : State) : Host.Outcome State Fault Refusal :=
  .next (s.windowCommand 6 window (fun w t => t.writeProfile w field.toNat value))

/-- READ-PROFILE's effect (R23). -/
def State.readProfile (s : State) (w : Fin 8) (id : Nat) : Effect :=
  match (s.profile w).field id with
  | some v => s.answer .ok (bytes4 v)
  | none => s.answer .badArg (bytes4 0)

/-- READ-PROFILE (R23). -/
def execReadProfile (window field : Byte) (s : State) : Host.Outcome State Fault Refusal :=
  .next (s.windowCommand 2 window (fun w t => t.readProfile w field.toNat))

/-- The span of window `w` shares a byte with that of another window that is ACTIVE or CLOSING (R27). -/
def State.meetsWindow (s : State) (w : Fin 8) : Bool :=
  (List.finRange 8).any (fun v => v != w && s.windows[v].state != .off
    && regionsMeet (s.profile w).base.toNat (s.profile w).span (s.profile v).base.toNat (s.profile v).span)

/-- The span of a window shares a byte with the ring region (R27, R157). -/
def State.meetsRing (p : Profile) (first past : Addr) : Bool :=
  regionsMeet p.base.toNat p.span first.toNat (past.toNat - first.toNat)

/-- OPEN-WINDOW is refused with BADARG (R27). -/
def State.openRefused (s : State) (w : Fin 8) : Bool :=
  let p := s.profile w
  Config.addressTop < p.base.toNat + p.span || p.passLimit < p.minPasses || s.meetsWindow w
    || State.meetsRing p s.ring.first s.ring.past

/-- What a taken OPEN-WINDOW does to the window (R27). -/
def State.openNow (s : State) (w : Fin 8) : State :=
  let t := s.setWindow w { s.windows[w] with settled := [], counters := Counters.zero }
  (t.discardRecords w).changeWindow w .active

/-- OPEN-WINDOW's effect (R27). -/
def State.openWindow (s : State) (w : Fin 8) : Effect :=
  if s.windows[w].state ≠ .off then s.answer .busy []
  else if s.openRefused w then s.answer .badArg []
  else ⟨(s.openNow w).settle, .ok, []⟩

/-- OPEN-WINDOW (R27). -/
def execOpenWindow (window : Byte) (s : State) : Host.Outcome State Fault Refusal :=
  .next (s.windowCommand 1 window (fun w t => t.openWindow w))

/-- CLOSE-WINDOW's effect (R28). -/
def State.closeWindow (s : State) (w : Fin 8) : Effect :=
  match s.windows[w].state with
  | .off => s.answer .busy []
  | .closing => s.answer .ok []
  | .active => ⟨(s.changeWindow w .closing).settle, .ok, []⟩

/-- CLOSE-WINDOW (R28). -/
def execCloseWindow (window : Byte) (s : State) : Host.Outcome State Fault Refusal :=
  .next (s.windowCommand 1 window (fun w t => t.closeWindow w))

/-- ABANDON-WINDOW (R32, R33). -/
def execAbandonWindow (window : Byte) (s : State) : Host.Outcome State Fault Refusal :=
  .next (s.windowCommand 1 window (fun w t => ⟨(t.abandon w).settle, .ok, []⟩))

/-- READ-COUNTERS (R39, R186). -/
def execReadCounters (window : Byte) (s : State) : Host.Outcome State Fault Refusal :=
  .next (s.windowCommand 1 window (fun w t => t.answer .ok (t.windows[w].counters.toList.flatMap bytes2)))

/-- CLEAR-COUNTERS (R39). -/
def execClearCounters (window : Byte) (s : State) : Host.Outcome State Fault Refusal :=
  .next (s.windowCommand 1 window
    (fun w t => ⟨t.setWindow w { t.windows[w] with counters := Counters.zero }, .ok, []⟩))

/-- The unit record of QUERY-UNIT (R78, R186). -/
def unitRecord (settled : Bool) : Option Context → List Byte
  | some c =>
    [byteOf c.state.code, byteOf c.passes, byteOf c.clean] ++ bytes2 c.weak
      ++ [byteOf c.lastRepair.code, byteOf c.outstanding, byteOf c.granules.length, byteOf c.flips.length]
      ++ flipPlaces c.flips
  | none => [if settled then 1 else 0, 0, 0] ++ bytes2 0 ++ [0, 0, 0, 0] ++ flipPlaces []

/-- The context of a unit. -/
def State.unitContext (s : State) (u : UnitId) : Option Context :=
  match s.findContext u with
  | some i => s.contexts[i]
  | none => none

/-- QUERY-UNIT's effect (R78). -/
def State.queryUnit (s : State) (u : UnitId) : Effect :=
  if (s.profile u.window).unitCount ≤ u.unit then s.answer .badArg []
  else s.answer .ok (unitRecord (s.isSettled u) (s.unitContext u))

/-- QUERY-UNIT (R78). -/
def execQueryUnit (window : Byte) (unit : BitVec 16) (s : State) : Host.Outcome State Fault Refusal :=
  .next (s.windowCommand 3 window (fun w t => t.queryUnit ⟨w, unit.toNat⟩))

/-- REOPEN-UNIT's effect (R37). -/
def State.reopenUnit (s : State) (u : UnitId) : Effect :=
  if (s.profile u.window).unitCount ≤ u.unit then s.answer .badArg []
  else if (s.findContext u).isSome then s.answer .busy []
  else ⟨s.unsettleUnit u, .ok, []⟩

/-- REOPEN-UNIT (R37). -/
def execReopenUnit (window : Byte) (unit : BitVec 16) (s : State) : Host.Outcome State Fault Refusal :=
  .next (s.windowCommand 3 window (fun w t => t.reopenUnit ⟨w, unit.toNat⟩))

/-! ### Ring -/

/-- The region shares a byte with the span of a window that is ACTIVE or CLOSING (R157). -/
def State.ringMeets (s : State) (first past : Addr) : Bool :=
  (List.finRange 8).any (fun w => s.windows[w].state != .off && State.meetsRing (s.profile w) first past)

/-- SET-RING's effect (R157). -/
def State.setRing (s : State) (first past : Addr) : Effect :=
  if s.ring.enabled then s.answer .busy []
  else if first.toNat % 16 ≠ 0 ∨ past.toNat % 16 ≠ 0 ∨ past.toNat < first.toNat + 32 ∨ s.ringMeets first past then
    s.answer .badArg []
  else ⟨{ s with ring := { s.ring with first := first, past := past } }, .ok, []⟩

/-- SET-RING (R157). -/
def execSetRing (ringBegin ringEnd : Addr) (s : State) : Host.Outcome State Fault Refusal :=
  .next (s.command 8 (fun t => t.setRing ringBegin ringEnd))

/-- RING-ENABLE's effect (R158). -/
def State.enableRing (s : State) : Effect :=
  if s.ring.enabled then s.answer .busy []
  else if s.ring.past.toNat < s.ring.first.toNat + 32 then s.answer .badArg []
  else
    ⟨{ s with ring := { s.ring with
        enabled := true, write := s.ring.first, consumed := s.ring.first, sequence := 0 } }, .ok, []⟩

/-- RING-ENABLE (R158). -/
def execRingEnable (s : State) : Host.Outcome State Fault Refusal := .next (s.command 0 State.enableRing)

/-- The posting is no backlog posting. -/
def Posting.notBacklog (x : Posting) : Bool := x.poster != .backlog

/-- RING-DISABLE's effect (R159): the backlog and a backlog posting are discarded; a notice that waits for queue room is
accepted and discarded at this event (R160). -/
def State.disableRing (s : State) : Effect :=
  if s.ring.enabled then
    ⟨{ s with
        ring := { s.ring with enabled := false, backlog := [] }
        postings := s.postings.filter Posting.notBacklog }.settle, .ok, []⟩
  else s.answer .ok []

/-- RING-DISABLE (R159). -/
def execRingDisable (s : State) : Host.Outcome State Fault Refusal := .next (s.command 0 State.disableRing)

/-- The distance along the ring from place `a` to place `b` (R163). -/
def Ring.distance (r : Ring) (a b : Addr) : Nat :=
  if a.toNat ≤ b.toNat then b.toNat - a.toNat else b.toNat + (r.past.toNat - r.first.toNat) - a.toNat

/-- The outcome of RING-CONSUMED: the result and the consumed pointer after (R163). -/
def Ring.consume (r : Ring) (p : Addr) : Result × Addr :=
  if ¬ r.enabled then (.busy, r.consumed)
  else if p.toNat % 16 ≠ 0 ∨ p.toNat < r.first.toNat ∨ r.past.toNat ≤ p.toNat then (.badArg, r.consumed)
  else if r.distance r.consumed r.write < r.distance r.consumed p then (.clamped, r.write)
  else (.ok, p)

/-- RING-CONSUMED's effect (R163, R162). -/
def State.consumeRing (s : State) (p : Addr) : Effect :=
  let r := s.ring.consume p
  if r.1.refused then s.answer r.1 (bytes4 r.2)
  else ⟨{ s with ring := { s.ring with consumed := r.2 } }.settle, r.1, bytes4 r.2⟩

/-- RING-CONSUMED (R163). -/
def execRingConsumed (pointer : Addr) (s : State) : Host.Outcome State Fault Refusal :=
  .next (s.command 4 (fun t => t.consumeRing pointer))

/-- The ring state's bytes (R165, R186). -/
def Ring.report (r : Ring) : List Byte :=
  [if r.enabled then 1 else 0] ++ bytes4 r.first ++ bytes4 r.past ++ bytes4 r.write ++ bytes4 r.consumed
    ++ [r.sequence, byteOf r.backlog.length]

/-- READ-RING (R165). -/
def execReadRing (s : State) : Host.Outcome State Fault Refusal :=
  .next (s.command 0 (fun t => t.answer .ok t.ring.report))

end Sys2Proof.Machine
end

