-- ==== Sys2Proof/Machine/Pins.lean ====
section
/-! DEFINITION. The edges of MSEL and RESET_N, and the core reset (R169 to R173, R178, R179; R20, R21). -/

namespace Sys2Proof.Machine

/-! ### Frames -/

/-- A window is CLOSING. -/
def State.anyClosing (s : State) : Bool := (List.finRange 8).any (fun w => s.windows[w].state == .closing)

/-- The summary status byte (R171). -/
def State.statusByte (s : State) : Byte :=
  byteOf (128 * s.attnLow.toNat + 64 * s.anyClosing.toNat
    + 32 * (decide (Config.queueHigh ≤ s.queue.length)).toNat + 16 * s.repair.isSome.toNat
    + 8 * (!s.ring.backlog.isEmpty).toNat + 4 * s.faultRecord.isSome.toNat
    + 2 * s.lastRefused.toNat + s.resetSince.toNat)

/-- FRAME_OPEN: a falling edge of MSEL (R171). It opens a frame once the part is ready (R179, R180); with MSEL low already
there is no falling edge (log 1). -/
def execFrameOpen (s : State) : Host.Outcome State Fault Refusal :=
  if s.mselLow then .next s
  else if s.run == .ready then .next { s with mselLow := true, frame := some ⟨s.statusByte, none, false, [], [], 0⟩ }
  else .next { s with mselLow := true }

/-! ### Resets -/

/-- Every block at its reset values but for what each reset treats in its own way: bus traffic, run state, flags, port.
The vote store's cells stay as they stand (R68). -/
def State.resetBlocks (s : State) : State :=
  { s with
    windows := Vector.replicate 8 Window.reset
    lanes := Vector.replicate 4 Lane.reset
    foldQueue := []
    contexts := Vector.replicate 32 none
    freeList := List.range Config.granules
    fold := none
    repairQueue := []
    repair := none
    queue := []
    postings := []
    runCount := 0
    faultRecord := none
    holds := Vector.replicate 4 none
    testDue := false
    ring := Ring.reset
    enables := 0
    frame := none }

/-- A waiting beat after a core reset lies outside: every window is OFF (R11, R21). -/
def WaitingBeat.toOutside (b : WaitingBeat) : WaitingBeat := { b with cls := .outside }

/-- A stalled write classified again under windows that are all OFF (R11, R21). -/
def Active.allOutside (a : Active) : Active := { a with waiting := a.waiting.map WaitingBeat.toOutside }

/-- A through-transaction without its override record (R21). -/
def Through.withoutRecord (t : Through) : Through := { t with record := none }

/-- The core reset (R178, R21): blocks at their reset values; the through order kept without override records; stalled
writes classified again, so that their waiting beats are forwarded. -/
def State.coreReset (s : State) : State :=
  { s.resetBlocks with
    through := s.through.map Through.withoutRecord
    active := s.active.map Active.allOutside
    flags := Flag.mask .reset
    lastRefused := false
    resetSince := true
    resetCause := .core }.settle

/-- A core reset is due at the end of the frame in progress (R178). -/
def State.coreResetDue (s : State) : Bool :=
  match s.frame with
  | some f => f.coreReset
  | none => false

/-- FRAME_END: a rising edge of MSEL (R173, R178). The frame ends; what had not taken effect has none. With MSEL high already
there is no rising edge (log 1). -/
def execFrameEnd (s : State) : Host.Outcome State Fault Refusal :=
  if s.mselLow then
    let t := { s with mselLow := false, frame := none }
    if s.coreResetDue then .next t.coreReset else .next t
  else .next s

/-- PIN_RESET_ASSERT (R179, R20): every block at its reset values, every request abandoned unanswered, the frame discarded,
every flag clear until the deassertion sets RESET (log 14). -/
def execPinResetAssert (s : State) : Host.Outcome State Fault Refusal :=
  .next { s.resetBlocks with
    run := .held
    active := []
    through := []
    issued := []
    responses := Vector.replicate 4 none
    flags := 0 }

/-- PIN_RESET_DEASSERT (R179): the REFDIV value sampled last is latched, cause PIN, the reset-since bit and the RESET flag set,
the last-result indicator clear, the ticks counted from zero. With RESET_N high already there is no edge (log 1). -/
def execPinResetDeassert (refdiv : BitVec 2) (s : State) : Host.Outcome State Fault Refusal :=
  if s.run == .held then
    .next { s.setFlag .reset with
      run := .recovering 0
      refdiv := refdiv
      lastRefused := false
      resetSince := true
      resetCause := .pin }
  else .next s

end Sys2Proof.Machine
end

