-- ==== Sys2Proof/Machine/Timers.lean ====
section
/-! DEFINITION. The timer commands: IDLE_EXPIRY, HOLD_EXPIRY, READY, TIMEBASE_TICK (R50, R147, R149, R180 to R182, log 6). -/

namespace Sys2Proof.Machine

/-- The expiry of a lane's idle timer is due: its L-th tick has come (R50, R182). -/
def State.idleDue (s : State) (k : Fin 4) : Bool := s.lanes[k].timer == some 0

/-- The idle expiry of a lane, when due: its filling pass is torn (R50, R52). -/
def State.idleExpire (s : State) (k : Fin 4) : State := if s.idleDue k then (s.tear k).settle else s

/-- IDLE_EXPIRY (R50). -/
def execIdleExpiry (lane : Fin 4) (s : State) : Host.Outcome State Fault Refusal := .next (s.idleExpire lane)

/-- The read of initiator `k` will be answered STALE (R149). -/
def State.markStale (s : State) (k : Fin 4) : State := s.modifyActive k (fun a => { a with stale := true })

/-- The STALE_READS count of an expired hold; none without a counting window (R38, R149). -/
def State.countStale (s : State) (w : Option (Fin 8)) : State :=
  match w with
  | some w => s.bump w .staleReads
  | none => s

/-- The hold expiry of an initiator's read, when due (R149). -/
def State.holdExpire (s : State) (k : Fin 4) : State :=
  match s.holds[k] with
  | some h =>
    if h.remaining = 0 then (((s.setHold k none).markStale k).countStale h.counting).setFlag .stale else s
  | none => s

/-- HOLD_EXPIRY (R149). -/
def execHoldExpiry (initiator : Fin 4) (s : State) : Host.Outcome State Fault Refusal := .next (s.holdExpire initiator)

/-- READY (R180): at the fourth tick after the deassertion of RESET_N; no effect before it. -/
def execReady (s : State) : Host.Outcome State Fault Refusal :=
  match s.run with
  | .recovering t => if Config.readyTicks ≤ t then .next { s with run := .ready } else .next s
  | .held => .next s
  | .ready => .next s

/-- The expiries that earlier ticks have made due are taken before the next tick counts (log 6). -/
def State.takeDue (s : State) : State :=
  (List.finRange 4).foldl State.holdExpire ((List.finRange 4).foldl State.idleExpire s)

/-- A lane's idle timer counts down by one (R50). -/
def State.tickLane (s : State) (k : Fin 4) : State :=
  s.setLane k { s.lanes[k] with timer := s.lanes[k].timer.map (· - 1) }

/-- A hold timer counts down by one (R147). -/
def State.tickHold (s : State) (k : Fin 4) : State :=
  s.setHold k (s.holds[k].map (fun h => { h with remaining := h.remaining - 1 }))

/-- Every running timer counts down by one. -/
def State.countDown (s : State) : State :=
  (List.finRange 4).foldl State.tickHold ((List.finRange 4).foldl State.tickLane s)

/-- TIMEBASE_TICK (R181, R182): every running timer counts one tick. From the deassertion of RESET_N the ticks are counted
towards readiness (R180); a readiness that is due is taken before the next tick counts (log 6). No tick while RESET_N
is low (R179). -/
def execTimebaseTick (s : State) : Host.Outcome State Fault Refusal :=
  match s.run with
  | .held => .next s
  | .recovering t =>
    if Config.readyTicks ≤ t then .next { s with run := .ready }.countDown
    else .next { s with run := .recovering (t + 1) }
  | .ready => .next s.takeDue.countDown

end Sys2Proof.Machine
end

