-- ==== Sys2Proof/Machine/Dispatch.lean ====
section
/-! DEFINITION. One arm per command: the meaning of each row of spec/opcode_table.json. -/

namespace Sys2Proof.Machine

def exec (i : Instr) (s : State) : Host.Outcome State Fault Refusal :=
  match i with
  | .requestTake req => Sys2Proof.Machine.execRequestTake req s
  | .grant => Sys2Proof.Machine.execGrant s
  | .throughResponse code data => Sys2Proof.Machine.execThroughResponse code data s
  | .writeBackAnswer code => Sys2Proof.Machine.execWriteBackAnswer code s
  | .idleExpiry lane => Sys2Proof.Machine.execIdleExpiry lane s
  | .holdExpiry initiator => Sys2Proof.Machine.execHoldExpiry initiator s
  | .foldStart => Sys2Proof.Machine.execFoldStart s
  | .settleEvaluation => Sys2Proof.Machine.execSettleEvaluation s
  | .entryEntersQueue => Sys2Proof.Machine.execEntryEntersQueue s
  | .noticeAccepted => Sys2Proof.Machine.execNoticeAccepted s
  | .repairTake => Sys2Proof.Machine.execRepairTake s
  | .endOfSearching => Sys2Proof.Machine.execEndOfSearching s
  | .readStatus => Sys2Proof.Machine.execReadStatus s
  | .readFlags => Sys2Proof.Machine.execReadFlags s
  | .clearFlags mask => Sys2Proof.Machine.execClearFlags mask s
  | .setEnables value => Sys2Proof.Machine.execSetEnables value s
  | .writeProfile window field value => Sys2Proof.Machine.execWriteProfile window field value s
  | .readProfile window field => Sys2Proof.Machine.execReadProfile window field s
  | .openWindow window => Sys2Proof.Machine.execOpenWindow window s
  | .closeWindow window => Sys2Proof.Machine.execCloseWindow window s
  | .abandonWindow window => Sys2Proof.Machine.execAbandonWindow window s
  | .readCounters window => Sys2Proof.Machine.execReadCounters window s
  | .clearCounters window => Sys2Proof.Machine.execClearCounters window s
  | .queryUnit window unit => Sys2Proof.Machine.execQueryUnit window unit s
  | .reopenUnit window unit => Sys2Proof.Machine.execReopenUnit window unit s
  | .setRing ringBegin ringEnd => Sys2Proof.Machine.execSetRing ringBegin ringEnd s
  | .ringEnable => Sys2Proof.Machine.execRingEnable s
  | .ringDisable => Sys2Proof.Machine.execRingDisable s
  | .ringConsumed pointer => Sys2Proof.Machine.execRingConsumed pointer s
  | .readRing => Sys2Proof.Machine.execReadRing s
  | .readFault => Sys2Proof.Machine.execReadFault s
  | .clearFault => Sys2Proof.Machine.execClearFault s
  | .coreReset => Sys2Proof.Machine.execCoreReset s
  | .badcmd code => Sys2Proof.Machine.execBadcmd code s
  | .frameEnd => Sys2Proof.Machine.execFrameEnd s
  | .pinResetAssert => Sys2Proof.Machine.execPinResetAssert s
  | .pinResetDeassert refdiv => Sys2Proof.Machine.execPinResetDeassert refdiv s
  | .ready => Sys2Proof.Machine.execReady s
  | .frameOpen => Sys2Proof.Machine.execFrameOpen s
  | .timebaseTick => Sys2Proof.Machine.execTimebaseTick s

end Sys2Proof.Machine
end

