-- ==== Sys2Proof/Machine/Step.lean ====
section
/-! DEFINITION. One step: the command at the front of the queue, or what goes on without a command. -/

namespace Sys2Proof.Machine

/-- A step without a command (log 11): the edge of MCLK that has come first is dealt with, and a command whose last bit it
brings takes effect at it (R170); without an edge a search goes on by one subset (R111); without either the block idles. -/
def State.goOn (s : State) : Host.Outcome State Fault Refusal :=
  match s.mclk with
  | [] => .next s.searchOn
  | e :: rest =>
    match ({ s with mclk := rest }.clock e).2 with
    | some c => exec c ({ s with mclk := rest }.clock e).1
    | none => .next ({ s with mclk := rest }.clock e).1

/-- Takes the command at the front of the queue and runs it with the queue's rest; on an empty queue the part goes on
without one. -/
def step (s : State) : Host.Outcome State Fault Refusal :=
  match s.pending with
  | [] => s.goOn
  | c :: rest => exec c { s with pending := rest }

/-- The state with the command that a table word spells put at the front of its queue; unchanged when it spells none
(log 12). -/
def State.withFetchWord (s : State) (nbits w : Nat) : State :=
  match decodeTableWord nbits w with
  | some c => { s with pending := c :: s.pending }
  | none => s

end Sys2Proof.Machine
end

