-- ==== Sys2Proof/Safety.lean ====
section
/-! DEFINITION. What a safe run of the part keeps: the forms and bounds the rules give its state, and the parts of the state
that no at-once step touches. -/

namespace Sys2Proof.Machine

/-! ### Invariants -/

/-- Every window's profile lies in the ranges of R22. -/
def State.ProfilesLegal (s : State) : Prop := ∀ w : Fin 8, (s.profile w).legal = true

/-- The write-back queue holds at most 16 entries (R128), the backlog at most 8 notices (R155), the run count is at most
8 (R138). -/
structure State.QueuesBounded (s : State) : Prop where
  queue : s.queue.length ≤ 16
  backlog : s.ring.backlog.length ≤ 8
  runCount : s.runCount ≤ 8

/-- The granules of a context slot. -/
def slotGranules : Option Context → List Nat
  | some c => c.granules
  | none => []

/-- The granules that contexts hold, in ascending context slot order. -/
def State.heldGranules (s : State) : List Nat := s.contexts.toList.flatMap slotGranules

/-- Each granule is in the free list exactly once or in exactly one context's granule list exactly once (R69). -/
def State.GranulesAccounted (s : State) : Prop := (s.freeList ++ s.heldGranules).Perm (List.range 256)

/-- Each initiator has at most one unanswered request (R3). -/
def State.OneRequestEach (s : State) : Prop := (s.active.map Active.initiator).Nodup

/-- No two contexts name the same window and unit index (R60). -/
def State.UnitsDistinct (s : State) : Prop :=
  ∀ i j : Fin 32, ∀ c d : Context, s.contexts[i] = some c → s.contexts[j] = some d → c.uid = d.uid → i = j

/-- The sparse vote store is in its one canonical form: granules strictly rising, none listed with all cells zero. -/
structure VotesWf (votes : List (Nat × List Cell)) : Prop where
  rising : votes.Pairwise (fun a b => a.1 < b.1)
  listed : ∀ x ∈ votes, x.2 ≠ zeroGranule

/-- Every tally lies within -7 to +7 (R68). -/
def TalliesInRange (votes : List (Nat × List Cell)) : Prop :=
  ∀ x ∈ votes, ∀ c ∈ x.2, -7 ≤ c.tally ∧ c.tally ≤ 7

/-- The vote store as every step keeps it. -/
structure State.VotesGood (s : State) : Prop where
  form : VotesWf s.votes
  range : TalliesInRange s.votes

/-- The engines' records name context slots that are held (R80, R107). -/
structure State.RecordsHeld (s : State) : Prop where
  fold : ∀ pass i, s.fold = some ⟨pass, .updating i⟩ → (s.contexts[i]).isSome = true
  repair : ∀ i u cands syn n, s.repair = some ⟨i, u, .searching cands syn n⟩ → (s.contexts[i]).isSome = true

/-- A posting made by the fold engine. -/
def Posting.byFold (x : Posting) : Bool :=
  match x.poster with
  | .fold _ _ => true
  | .raw _ _ => true
  | .repair _ _ => false
  | .drain _ => false
  | .override _ => false
  | .backlog => false

/-- The context slot holds a context of the unit in the state. -/
def State.HoldsIn (s : State) (i : Fin 32) (u : UnitId) (x : ContextState) : Prop :=
  ∃ c, s.contexts[i] = some c ∧ c.uid = u ∧ c.state = x

/-- The engines' records, their postings, the repair queue and the contexts agree (R62, R80, R104, R107). -/
structure State.EnginesAgree (s : State) : Prop where
  /-- A fold in UPDATING names the FOLDING context of its pass's unit. -/
  updating : ∀ pass i, s.fold = some ⟨pass, .updating i⟩ → s.HoldsIn i pass.uid .folding
  /-- So does a fold in POSTING whose outcome is REPAIR or OPEN. -/
  keeping : ∀ pass i o, s.fold = some ⟨pass, .posting i o⟩ → o.final = false → s.HoldsIn i pass.uid .folding
  /-- The context of a fold in POSTING with a final outcome is DRAINING, when it is still held. -/
  settling : ∀ pass i o c, s.fold = some ⟨pass, .posting i o⟩ → o.final = true → s.contexts[i] = some c → c.state = .draining
  /-- A fold posting is that of the fold in progress. -/
  foldPosting : ∀ i o u steps, ⟨.fold i o, u, steps⟩ ∈ s.postings →
    ∃ pass, s.fold = some ⟨pass, .posting i o⟩ ∧ u = some pass.uid
  /-- A raw posting is that of the fold in progress. -/
  rawPosting : ∀ pass clean u steps, ⟨.raw pass clean, u, steps⟩ ∈ s.postings →
    s.fold = some ⟨pass, .raw clean⟩ ∧ u = some pass.uid
  /-- The fold engine makes at most one posting. -/
  onePosting : s.postings.countP Posting.byFold ≤ 1
  /-- A search names the REPAIRING context of its unit. -/
  searching : ∀ i u cands syn n, s.repair = some ⟨i, u, .searching cands syn n⟩ → s.HoldsIn i u .repairing
  /-- The repair queue names REPAIR_WAIT contexts, each once. -/
  waiting : ∀ i ∈ s.repairQueue, ∃ u, s.HoldsIn i u .repairWait
  once : s.repairQueue.Nodup

/-! ### Frames -/

/-- What no at-once step touches: the run state, the divider, the memory port's issued requests, the fault record, the
enables, the maintenance port and its waiting edges, the reset cause, every window's profile, the queue of commands. -/
structure State.Untouched (s t : State) : Prop where
  run : t.run = s.run
  refdiv : t.refdiv = s.refdiv
  issued : t.issued = s.issued
  faultRecord : t.faultRecord = s.faultRecord
  enables : t.enables = s.enables
  mselLow : t.mselLow = s.mselLow
  frame : t.frame = s.frame
  lastRefused : t.lastRefused = s.lastRefused
  resetSince : t.resetSince = s.resetSince
  resetCause : t.resetCause = s.resetCause
  mclk : t.mclk = s.mclk
  pending : t.pending = s.pending
  profile : ∀ w, t.profile w = s.profile w

/-- The state between two events when no write is stalled: no at-once step is due, no hold test is due. -/
structure State.Still (s : State) : Prop where
  quiet : s.Quiet
  waiting : ∀ a ∈ s.active, a.waiting = []
  testDue : s.testDue = false

/-- Nothing at all is under way that a small event could make due: no beat waits, no posting, no CLOSING window, no backlog,
no unit queued for repair, no held read. -/
structure State.Calm (s : State) : Prop where
  waiting : ∀ a ∈ s.active, a.waiting = []
  postings : s.postings = []
  closing : ∀ w : Fin 8, s.windows[w].state ≠ .closing
  backlog : s.ring.backlog = []
  repairQueue : s.repairQueue = []
  holds : ∀ k : Fin 4, s.holds[k] = none
  testDue : s.testDue = false

/-- The fold engine has nothing to take: a fold is in progress, or no pass is staged (R56). -/
def State.FoldSettled (s : State) : Prop := s.foldDue = false

/-- A frame is open in which no command has taken effect yet (R170). -/
def State.Listening (s : State) (f : Frame) : Prop := s.frame = some f ∧ f.reply = none

/-- The state with a reply presented in the frame and the last-result indicator following the result (R170, R172). -/
def State.replied (s : State) (f : Frame) (args : Nat) (result : Result) (data : List Byte) : State :=
  { s with frame := some (f.answered ⟨args, result, data⟩), lastRefused := result.refused }

/-! ### Commands -/

/-- The commands of the maintenance port (R175), the answer to an unknown code among them. -/
def isMaintenance : Instr → Bool
  | .readStatus => true
  | .readFlags => true
  | .clearFlags _ => true
  | .setEnables _ => true
  | .writeProfile _ _ _ => true
  | .readProfile _ _ => true
  | .openWindow _ => true
  | .closeWindow _ => true
  | .abandonWindow _ => true
  | .readCounters _ => true
  | .clearCounters _ => true
  | .queryUnit _ _ => true
  | .reopenUnit _ _ => true
  | .setRing _ _ => true
  | .ringEnable => true
  | .ringDisable => true
  | .ringConsumed _ => true
  | .readRing => true
  | .readFault => true
  | .clearFault => true
  | .coreReset => true
  | .badcmd code => codeUnknown code
  | _ => false

/-- The part takes the request when it is presented (R3, R180). -/
structure State.Takes (s : State) (req : Request) : Prop where
  ready : s.run = .ready
  free : s.busyInitiator req.initiator = false
  wf : req.wf = true

/-- A write of one beat. -/
def oneBeat (k : Fin 4) (a : Addr) (b : Beat) : Request := ⟨k, a, .write [b]⟩

/-- The exclusive OR of the contributions of positions (R110). -/
def combined (p : Profile) (positions : List Nat) : BitVec 32 :=
  (positions.map (contribution p)).foldl (fun acc x => acc ^^^ x) 0

/-- Two address ranges, each given by its first byte and the byte past its end, share at least one byte. -/
def ShareByte (b₁ e₁ b₂ e₂ : Nat) : Prop := ∃ x, b₁ ≤ x ∧ x < e₁ ∧ b₂ ≤ x ∧ x < e₂

end Sys2Proof.Machine
end

