-- ==== Sys2Proof/Certificates/Slice0/Obligations.lean ====
section
/-! DEFINITION. The statements about the model. Each is a Prop; none is proved here. -/

open Sys2Proof Sys2Proof.Machine

/-! ### The machine -/

/-- A step takes the command at the front of the queue and is that command's effect on the state with the queue's rest. On an
empty queue, with no edge of MCLK waiting, a search examines one more subset while one is left, up to the number R112 gives,
and otherwise the block idles (logs 8 and 11: the model's choices). -/
def Obligations.StepRunsTheFrontCommand : Prop :=
  (∀ (c : Instr) (rest : List Instr) (s : State),
    step { s with pending := c :: rest } = exec c { s with pending := rest })
  ∧ (∀ s : State, s.pending = [] → s.mclk = [] → (∀ r, s.repair = some r → r.phase.posts = true) → step s = .next s)
  ∧ ∀ (s : State) (i : Fin 32) (u : UnitId) (cands : List Nat) (syn : BitVec 32) (n : Nat),
      s.pending = [] → s.mclk = [] → s.repair = some ⟨i, u, .searching cands syn n⟩ →
      (n < searchLength (s.profile u.window) cands syn →
        step s = .next { s with repair := some ⟨i, u, .searching cands syn (n + 1)⟩ })
      ∧ (searchLength (s.profile u.window) cands syn ≤ n → step s = .next s)

/-- No command touches the queue of commands behind it, nor the edges of MCLK that wait. -/
def Obligations.EveryCommandKeepsTheQueue : Prop :=
  ∀ (c : Instr) (s t : State), exec c s = .next t → t.pending = s.pending ∧ t.mclk = s.mclk

/-- Every well-formed command answers a next state in every state whose engine records name held contexts; a request that R1
does not allow, and BADCMD of a known code, are refused; a fault means that an engine record names a free slot
(logs 15 and 16: the model's choices). -/
def Obligations.WellFormedCommandsComplete : Prop :=
  (∀ (c : Instr) (s : State), c.wf = true → s.RecordsHeld → ∃ t, exec c s = .next t)
  ∧ (∀ (req : Request) (s : State), req.wf = false → exec (.requestTake req) s = .refused .malformedRequest)
  ∧ (∀ (code : Byte) (s : State), codeUnknown code = false → exec (.badcmd code) s = .refused .knownCommandCode)
  ∧ ∀ (c : Instr) (s : State) (r : Fault), exec c s = .fault r → ¬ s.RecordsHeld

/-- From any state, RESET_N low and then high leaves the state of `State.reset` with the strap just sampled; between the two
edges no request is in progress, no frame is open and ATTN is released (R20, R179). MSEL's level, the vote store's
cells and the waiting commands and edges stand (R68; logs 4, 5, 7). -/
def Obligations.PinResetMakesTheResetState : Prop :=
  ∀ (s : State) (d : BitVec 2), ∃ t, exec .pinResetAssert s = .next t
    ∧ (t.run = .held ∧ t.active = [] ∧ t.through = [] ∧ t.issued = [] ∧ t.frame = none ∧ t.attnLow = false)
    ∧ exec (.pinResetDeassert d) t = .next { State.reset with
        refdiv := d, mselLow := s.mselLow, votes := s.votes, mclk := s.mclk, pending := s.pending }

/-- R180: four ticks after the deassertion the part can become ready, no earlier; until it is ready no request is taken and no
frame opens. The tick and READY are commands of their own (log 6: the model's choice). -/
def Obligations.ReadyAtTheFourthTick : Prop :=
  ∀ s : State,
    (∀ n, s.run = .recovering n → n < 4 →
      exec .timebaseTick s = .next { s with run := .recovering (n + 1) } ∧ exec .ready s = .next s)
    ∧ (∀ n, s.run = .recovering n → 4 ≤ n → exec .ready s = .next { s with run := .ready })
    ∧ (s.run ≠ .ready → ∀ req : Request, req.wf = true → exec (.requestTake req) s = .next s)
    ∧ (s.run ≠ .ready → s.mselLow = false → exec .frameOpen s = .next { s with mselLow := true })

/-! ### Timers -/

/-- R181, R182: with no expiry due, a tick counts every running idle timer and every hold timer down by one and changes nothing
else; while RESET_N is low there is no tick. -/
def Obligations.TickCountsEveryTimer : Prop :=
  ∀ s : State,
    (s.run = .ready → (∀ k : Fin 4, s.lanes[k].timer ≠ some 0) →
      (∀ (k : Fin 4) (h : HoldRecord), s.holds[k] = some h → h.remaining ≠ 0) →
      exec .timebaseTick s = .next { s with
        lanes := s.lanes.map (fun l => { l with timer := l.timer.map (· - 1) })
        holds := s.holds.map (Option.map (fun h => { h with remaining := h.remaining - 1 })) })
    ∧ (s.run = .held → exec .timebaseTick s = .next s)

/-- R50, R52: the expiry of a lane's idle timer tears its filling pass: the buffer FREE, the record gone, the timer stopped,
PASSES_TORN of the pass's window up by one (stopping at 65535), TORN set, and nothing else. In a CLOSING window whose last
pass it was, with no context left, the tear ends the drain (R31): the window OFF, CLOSED set, its late runs removed. Without
a due expiry nothing changes (log 1). -/
def Obligations.IdleExpiryTearsTheFillingPass : Prop :=
  ∀ (k : Fin 4) (s : State),
    (∀ f : Filling, s.Still → s.lanes[k].timer = some 0 → s.lanes[k].filling = some f →
      s.windows[f.uid.window].state ≠ .closing →
      exec (.idleExpiry k) s = .next { s with
        lanes := s.lanes.set k { s.lanes[k].setBuffer f.buffer .free with filling := none, timer := none }
        windows := s.windows.set f.uid.window { s.windows[f.uid.window] with
          counters := { s.windows[f.uid.window].counters with
            passesTorn := satInc s.windows[f.uid.window].counters.passesTorn } }
        flags := s.flags ||| 0x004 })
    ∧ (∀ f : Filling, s.Still → s.lanes[k].timer = some 0 → s.lanes[k].filling = some f →
      let w := f.uid.window
      s.windows[w].state = .closing → s.windowContexts w = [] → (∀ j : Fin 4, j ≠ k → s.lanes[j].fills w = false) →
      (∀ p ∈ s.foldQueue, p.uid.window ≠ w) → s.foldsIn w = false →
      exec (.idleExpiry k) s = .next { s with
        lanes := (s.lanes.set k { s.lanes[k].setBuffer f.buffer .free with filling := none, timer := none }).map
          (fun l => if l.runsLate w then { l with lateRun := none } else l)
        windows := s.windows.set w { s.windows[w] with
          state := .off
          counters := { s.windows[w].counters with passesTorn := satInc s.windows[w].counters.passesTorn } }
        flags := s.flags ||| 0x004 ||| 0x080 })
    ∧ (s.lanes[k].timer ≠ some 0 → exec (.idleExpiry k) s = .next s)

/-- R149: the expiry of a hold timer discards the record, marks the read STALE, counts STALE_READS in the counting window when
there is one, sets STALE, and nothing else. Without a due expiry nothing changes (log 1). -/
def Obligations.HoldExpiryLetsTheReadGoStale : Prop :=
  ∀ (k : Fin 4) (s : State),
    (∀ h : HoldRecord, s.holds[k] = some h → h.remaining = 0 →
      exec (.holdExpiry k) s = .next { s with
        holds := s.holds.set k none
        active := s.active.map (fun a => if a.initiator = k then { a with stale := true } else a)
        windows := match h.counting with
          | none => s.windows
          | some w => s.windows.set w { s.windows[w] with
              counters := { s.windows[w].counters with staleReads := satInc s.windows[w].counters.staleReads } }
        flags := s.flags ||| 0x020 })
    ∧ ((∀ h : HoldRecord, s.holds[k] = some h → h.remaining ≠ 0) → exec (.holdExpiry k) s = .next s)

/-! ### Taking requests -/

/-- R3, R12, R146: a read with no counted overlap joins the through order forwardable; a request of an initiator whose previous
one is unanswered is not taken. What counts (R144, R145): the bytes of an ungranted entry, the slot of a fold, of a repair
in POSTING, of a drain posting, and the slot of an override record, on its piece or on its posting (D as at the take,
log 10: the model's choice); one that shares a byte with the read, modulo 2 to the power 32, and whose hold limit (255 for
the ring) is not 0. -/
def Obligations.ReadWithoutOverlapIsForwardable : Prop :=
  ∀ (k : Fin 4) (a : Addr) (n : Nat) (s : State),
    (s.Takes ⟨k, a, .read n⟩ → s.overlaps a n = [] →
      exec (.requestTake ⟨k, a, .read n⟩) s = .next { s with
        through := s.through ++ [⟨k, a, .read n, none⟩]
        active := s.active ++ [⟨k, [], 1, false, false, false⟩]
        holds := s.holds.set k none })
    ∧ (∀ req : Request, req.wf = true → s.busyInitiator req.initiator = true → exec (.requestTake req) s = .next s)
    ∧ (∀ i : HoldItem, i ∈ s.overlaps a n ↔ i ∈ s.holdItems
        ∧ (∃ j l : Nat, j < 4 * n ∧ l < i.length ∧ a + BitVec.ofNat 32 j = i.addr + BitVec.ofNat 32 l)
        ∧ (match i.window with
          | some w => (s.profile w).holdLimit ≠ 0
          | none => True))
    ∧ (let slot : UnitId → HoldItem := fun u =>
        ⟨(s.profile u.window).base + BitVec.ofNat 32 (u.unit * ((s.profile u.window).dataSize + 8)),
          (s.profile u.window).dataSize + 8, some u.window⟩
      let override : OverrideRecord → HoldItem := fun r => ⟨r.slotAddr, r.dataSize + 8, some r.uid.window⟩
      ∀ i : HoldItem, i ∈ s.holdItems ↔
        (∃ e ∈ s.queue, i = ⟨e.addr, 4 * e.beats.length, e.owner.map UnitId.window⟩)
        ∨ (∃ r, s.fold = some r ∧ i = slot r.pass.uid)
        ∨ (∃ r v, s.repair = some r ∧ r.phase = .posting v ∧ i = slot r.uid)
        ∨ (∃ x ∈ s.postings, ∃ c u, x.poster = .drain c ∧ x.owner = some u ∧ i = slot u)
        ∨ (∃ x ∈ s.postings, ∃ r, x.poster = .override r ∧ i = override r)
        ∨ (∃ t ∈ s.through, ∃ r, t.record = some r ∧ i = override r))

/-- R146, R147: a read with counted overlaps is held. Its limit is the smallest hold limit brought (255 for a RING item), the
remaining time starts at it, and the counting window is the lowest-numbered window that brought it, absent when none did. -/
def Obligations.OverlappingReadIsHeld : Prop :=
  ∀ (k : Fin 4) (a : Addr) (n : Nat) (s : State),
    s.Takes ⟨k, a, .read n⟩ → s.ProfilesLegal → s.overlaps a n ≠ [] →
    ∃ h : HoldRecord,
      exec (.requestTake ⟨k, a, .read n⟩) s = .next { s with
        through := s.through ++ [⟨k, a, .read n, none⟩]
        active := s.active ++ [⟨k, [], 1, false, false, false⟩]
        holds := s.holds.set k (some h) }
      ∧ h.addr = a ∧ h.count = n ∧ h.remaining = h.limit ∧ 1 ≤ h.limit ∧ h.limit ≤ 255
      ∧ (∀ i ∈ s.overlaps a n, h.limit ≤ s.itemLimit i)
      ∧ (∃ i ∈ s.overlaps a n, s.itemLimit i = h.limit)
      ∧ (∀ w : Fin 8, h.counting = some w ↔
          (∃ i ∈ s.overlaps a n, i.window = some w ∧ s.itemLimit i = h.limit)
          ∧ ∀ v : Fin 8, v < w → ¬ ∃ i ∈ s.overlaps a n, i.window = some v ∧ s.itemLimit i = h.limit)

/-- R5, R6, R7: a beat lies outside when no window that is not OFF covers its address; the one window that covers it gives its
slot, slot offset, region, class by the capture set, and whether the window is CLOSING. R8, R9, R12, R15: a write whose beats
have one place, outside or direct-class in one slot, none overriding, is one piece; it joins the through order whole and
nothing else changes. One whose first beats have one such place and the others another is two pieces. -/
def Obligations.OutsideWriteIsForwardedWhole : Prop :=
  (∀ (k : Fin 4) (a : Addr) (beats : List Beat) (place : Option UnitId) (s : State),
    let lies : WaitingBeat → Prop := fun b => match place with
      | none => b.cls = .outside
      | some u => b.overrides = false ∧ ∃ o r closing, b.cls = .slot u o r false closing
    s.Still → s.Takes ⟨k, a, .write beats⟩ → (∀ b ∈ classifyBeats s.windows k a beats, lies b) →
    exec (.requestTake ⟨k, a, .write beats⟩) s = .next { s with
      through := s.through ++ [⟨k, a, .write beats, none⟩]
      active := s.active ++ [⟨k, [], 1, false, false, false⟩] })
  ∧ (∀ (k : Fin 4) (a : Addr) (first second : List Beat) (x y : Option UnitId) (s : State),
    let next := a + BitVec.ofNat 32 (4 * first.length)
    let lies : WaitingBeat → Option UnitId → Prop := fun b place => match place with
      | none => b.cls = .outside
      | some u => b.overrides = false ∧ ∃ o r closing, b.cls = .slot u o r false closing
    s.Still → s.Takes ⟨k, a, .write (first ++ second)⟩ → first ≠ [] → second ≠ [] → x ≠ y →
    (∀ b ∈ classifyBeats s.windows k a first, lies b x) → (∀ b ∈ classifyBeats s.windows k next second, lies b y) →
    exec (.requestTake ⟨k, a, .write (first ++ second)⟩) s = .next { s with
      through := s.through ++ [⟨k, a, .write first, none⟩, ⟨k, next, .write second, none⟩]
      active := s.active ++ [⟨k, [], 2, false, false, false⟩] })
  ∧ ∀ (k : Fin 4) (a : Addr) (s : State),
    let covers : Fin 8 → Prop := fun w => s.windows[w].state ≠ .off ∧ (s.profile w).base.toNat ≤ a.toNat
      ∧ a.toNat < (s.profile w).base.toNat + (s.profile w).unitCount * ((s.profile w).dataSize + 8)
    (classifyBeat s.windows k a = .outside ↔ ∀ w, ¬ covers w)
    ∧ ∀ w, covers w → (∀ v, v ≠ w → ¬ covers v) →
      let d := (s.profile w).dataSize
      ∃ u o, a.toNat = (s.profile w).base.toNat + u * (d + 8) + o ∧ o < d + 8
        ∧ classifyBeat s.windows k a = .slot ⟨w, u⟩ o (if o < d then .data else if o < d + 4 then .check else .verdict)
          ((s.profile w).captureSet.getLsbD k.val) (s.windows[w].state == .closing)

/-- R15: a capture-class beat on a verdict word is absorbed and discarded: the write is answered OKAY and nothing else
changes. -/
def Obligations.VerdictWordBeatIsDiscarded : Prop :=
  ∀ (k : Fin 4) (a : Addr) (b : Beat) (u : UnitId) (o : Nat) (closing : Bool) (s : State),
    s.Still → s.Takes (oneBeat k a b) → classifyBeat s.windows k a = .slot u o .verdict true closing →
    exec (.requestTake (oneBeat k a b)) s = .next { s with responses := s.responses.set k (some ⟨.okay, []⟩) }

/-- R43, R41: an offset-0 capture beat with all enables on starts a pass in a FREE buffer, buffer 0 first, with expected offset
4 and the idle timer started at the window's idle limit; no counter and no flag changes. A filling pass of the lane, in
either buffer, is torn first (R52); its window stays as it is, not CLOSING or with another pass under way. -/
def Obligations.PassStartTakesAFreeBuffer : Prop :=
  ∀ (k : Fin 4) (a : Addr) (b : Beat) (u : UnitId) (s : State),
    s.Still → s.Takes (oneBeat k a b) → classifyBeat s.windows k a = .slot u 0 .data true false → b.enables.all = true →
    let timer := if (s.profile u.window).idleLimit = 0 then none else some (s.profile u.window).idleLimit
    let stays : Fin 8 → Prop := fun w => s.windows[w].state ≠ .closing ∨ (∃ j : Fin 4, j ≠ k ∧ s.lanes[j].fills w = true)
      ∨ (∃ p ∈ s.foldQueue, p.uid.window = w) ∨ s.foldsIn w = true
    (s.lanes[k].filling = none → s.lanes[k].buffer0 = .free →
      exec (.requestTake (oneBeat k a b)) s = .next { s with
        lanes := s.lanes.set k ⟨some ⟨u, 4, 0⟩, none, .filling b.data.bytes, s.lanes[k].buffer1, timer⟩
        responses := s.responses.set k (some ⟨.okay, []⟩) })
    ∧ (s.lanes[k].filling = none → s.lanes[k].buffer0 ≠ .free → s.lanes[k].buffer1 = .free →
      exec (.requestTake (oneBeat k a b)) s = .next { s with
        lanes := s.lanes.set k ⟨some ⟨u, 4, 1⟩, none, s.lanes[k].buffer0, .filling b.data.bytes, timer⟩
        responses := s.responses.set k (some ⟨.okay, []⟩) })
    ∧ (∀ f : Filling, s.lanes[k].filling = some f → stays f.uid.window →
      exec (.requestTake (oneBeat k a b)) s = .next { s with
        lanes := s.lanes.set k (
          if f.buffer = 0 then ⟨some ⟨u, 4, 0⟩, none, .filling b.data.bytes, s.lanes[k].buffer1, timer⟩
          else if s.lanes[k].buffer0 = .free then ⟨some ⟨u, 4, 0⟩, none, .filling b.data.bytes, .free, timer⟩
          else ⟨some ⟨u, 4, 1⟩, none, s.lanes[k].buffer0, .filling b.data.bytes, timer⟩)
        windows := s.windows.set f.uid.window { s.windows[f.uid.window] with
          counters := { s.windows[f.uid.window].counters with
            passesTorn := satInc s.windows[f.uid.window].counters.passesTorn } }
        flags := s.flags ||| 0x004
        responses := s.responses.set k (some ⟨.okay, []⟩) })

/-- R44, R45, R47: a capture beat at the expected offset of the lane's filling pass is appended and restarts the idle timer; at
offset D it completes the pass, which joins the tail of the fold queue behind a fold in progress, or is taken at once by the
idle fold engine (R56), here to be admitted (R71); with an enable off it tears the pass, counted once. -/
def Obligations.BeatAtTheExpectedOffset : Prop :=
  ∀ (k : Fin 4) (a : Addr) (b : Beat) (f : Filling) (r : Region) (closing : Bool) (s : State),
    s.Still → s.Takes (oneBeat k a b) → classifyBeat s.windows k a = .slot f.uid f.expected r true closing →
    r ≠ .verdict → f.expected ≠ 0 → s.lanes[k].filling = some f →
    let p := s.profile f.uid.window
    let content := (s.lanes[k].buffer f.buffer).content ++ b.data.bytes
    (b.enables.all = true → f.expected ≠ p.dataSize →
      exec (.requestTake (oneBeat k a b)) s = .next { s with
        lanes := s.lanes.set k { s.lanes[k].setBuffer f.buffer (.filling content) with
          filling := some { f with expected := f.expected + 4 }
          timer := if p.idleLimit = 0 then none else some p.idleLimit }
        responses := s.responses.set k (some ⟨.okay, []⟩) })
    ∧ (b.enables.all = true → f.expected = p.dataSize → s.fold ≠ none →
      exec (.requestTake (oneBeat k a b)) s = .next { s with
        lanes := s.lanes.set k { s.lanes[k].setBuffer f.buffer (.staged content) with filling := none, timer := none }
        foldQueue := s.foldQueue ++ [⟨k, f.buffer, f.uid⟩]
        responses := s.responses.set k (some ⟨.okay, []⟩) })
    ∧ (∀ i : Fin 32, b.enables.all = true → f.expected = p.dataSize → s.fold = none → s.isSettled f.uid = false →
      s.findContext f.uid = none → s.contexts[i] = none → (∀ j : Fin 32, j < i → s.contexts[j] ≠ none) →
      p.granuleCount ≤ s.freeList.length →
      exec (.requestTake (oneBeat k a b)) s = .next { s with
        lanes := s.lanes.set k { s.lanes[k].setBuffer f.buffer (.staged content) with filling := none, timer := none }
        fold := some ⟨⟨k, f.buffer, f.uid⟩, .updating i⟩
        contexts := s.contexts.set i (some
          ⟨f.uid, .folding, 0, 0, s.freeList.take p.granuleCount, [], [], 0, .none, [], 0, false⟩)
        freeList := s.freeList.drop p.granuleCount
        votes := clearGranules (s.freeList.take p.granuleCount) s.votes
        responses := s.responses.set k (some ⟨.okay, []⟩) })
    ∧ (b.enables.all = false → s.windows[f.uid.window].state ≠ .closing →
      exec (.requestTake (oneBeat k a b)) s = .next { s with
        lanes := s.lanes.set k { s.lanes[k].setBuffer f.buffer .free with filling := none, timer := none }
        windows := s.windows.set f.uid.window { s.windows[f.uid.window] with
          counters := { s.windows[f.uid.window].counters with
            passesTorn := satInc s.windows[f.uid.window].counters.passesTorn } }
        flags := s.flags ||| 0x004
        responses := s.responses.set k (some ⟨.okay, []⟩) })

/-- R46, R42 cases 2 and 7: an orphan beat is discarded, counted in PASSES_TORN of its own window, sets TORN, and disturbs
nothing else; an offset-0 orphan also ends the lane's late run, and tears its filling pass first (R52), which counts as well,
here in a window that stays as it is, not CLOSING or with another pass under way. -/
def Obligations.OrphanBeatCounts : Prop :=
  ∀ (k : Fin 4) (a : Addr) (b : Beat) (u : UnitId) (o : Nat) (r : Region) (closing : Bool) (s : State),
    s.Still → s.Takes (oneBeat k a b) → classifyBeat s.windows k a = .slot u o r true closing → r ≠ .verdict →
    let torn := s.windows.set u.window { s.windows[u.window] with
      counters := { s.windows[u.window].counters with passesTorn := satInc s.windows[u.window].counters.passesTorn } }
    (o ≠ 0 → (∀ f, s.lanes[k].filling = some f → ¬ (f.uid = u ∧ f.expected = o)) → s.lanes[k].lateRun ≠ some ⟨u, o⟩ →
      exec (.requestTake (oneBeat k a b)) s = .next { s with
        windows := torn, flags := s.flags ||| 0x004, responses := s.responses.set k (some ⟨.okay, []⟩) })
    ∧ (o = 0 → closing = false → b.enables.all = false → s.lanes[k].filling = none →
      exec (.requestTake (oneBeat k a b)) s = .next { s with
        lanes := s.lanes.set k { s.lanes[k] with lateRun := none }
        windows := torn, flags := s.flags ||| 0x004, responses := s.responses.set k (some ⟨.okay, []⟩) })
    ∧ (∀ f : Filling, o = 0 → closing = false → b.enables.all = false → s.lanes[k].filling = some f →
      let w := f.uid.window
      s.windows[w].state ≠ .closing ∨ (∃ j : Fin 4, j ≠ k ∧ s.lanes[j].fills w = true)
        ∨ (∃ p ∈ s.foldQueue, p.uid.window = w) ∨ s.foldsIn w = true →
      let once := s.windows.set w { s.windows[w] with
        counters := { s.windows[w].counters with passesTorn := satInc s.windows[w].counters.passesTorn } }
      exec (.requestTake (oneBeat k a b)) s = .next { s with
        lanes := s.lanes.set k { s.lanes[k].setBuffer f.buffer .free with filling := none, lateRun := none, timer := none }
        windows := once.set u.window { once[u.window] with
          counters := { once[u.window].counters with passesTorn := satInc once[u.window].counters.passesTorn } }
        flags := s.flags ||| 0x004
        responses := s.responses.set k (some ⟨.okay, []⟩) })

/-- R48, R10: a pass-starting beat that finds no FREE buffer is withheld with every later beat of its request: the request is
taken and waits, marked as stalled, and nothing else changes. -/
def Obligations.StalledLaneWithholdsTheBeat : Prop :=
  ∀ (k : Fin 4) (a : Addr) (b : Beat) (rest : List Beat) (u : UnitId) (s : State),
    s.Still → s.Takes ⟨k, a, .write (b :: rest)⟩ → classifyBeat s.windows k a = .slot u 0 .data true false →
    b.enables.all = true → s.lanes[k].filling = none → s.lanes[k].buffer0 ≠ .free → s.lanes[k].buffer1 ≠ .free →
    exec (.requestTake ⟨k, a, .write (b :: rest)⟩) s = .next { s with
      active := s.active ++ [⟨k, classifyBeats s.windows k a (b :: rest), 0, false, false, true⟩] }

/-- R53, R54: an offset-0 capture beat in a CLOSING window begins a late run, counts PASSES_LATE and sets LATE; a filling pass of
the lane is torn first (R52), here in a window that stays as it is, not CLOSING or with another pass under way. A beat that
continues the run is discarded without count, and moves the run on or ends it. -/
def Obligations.LatePassInAClosingWindow : Prop :=
  ∀ (k : Fin 4) (a : Addr) (b : Beat) (u : UnitId) (o : Nat) (r : Region) (closing : Bool) (s : State),
    s.Still → s.Takes (oneBeat k a b) → classifyBeat s.windows k a = .slot u o r true closing → r ≠ .verdict →
    (o = 0 → closing = true → s.lanes[k].filling = none →
      exec (.requestTake (oneBeat k a b)) s = .next { s with
        lanes := s.lanes.set k { s.lanes[k] with lateRun := some ⟨u, 4⟩ }
        windows := s.windows.set u.window { s.windows[u.window] with
          counters := { s.windows[u.window].counters with passesLate := satInc s.windows[u.window].counters.passesLate } }
        flags := s.flags ||| 0x008
        responses := s.responses.set k (some ⟨.okay, []⟩) })
    ∧ (∀ f : Filling, o = 0 → closing = true → s.lanes[k].filling = some f →
      let w := f.uid.window
      s.windows[w].state ≠ .closing ∨ (∃ j : Fin 4, j ≠ k ∧ s.lanes[j].fills w = true)
        ∨ (∃ p ∈ s.foldQueue, p.uid.window = w) ∨ s.foldsIn w = true →
      let torn := s.windows.set w { s.windows[w] with
        counters := { s.windows[w].counters with passesTorn := satInc s.windows[w].counters.passesTorn } }
      exec (.requestTake (oneBeat k a b)) s = .next { s with
        lanes := s.lanes.set k { s.lanes[k].setBuffer f.buffer .free with
          filling := none, lateRun := some ⟨u, 4⟩, timer := none }
        windows := torn.set u.window { torn[u.window] with
          counters := { torn[u.window].counters with passesLate := satInc torn[u.window].counters.passesLate } }
        flags := s.flags ||| 0x004 ||| 0x008
        responses := s.responses.set k (some ⟨.okay, []⟩) })
    ∧ (o ≠ 0 → (∀ f, s.lanes[k].filling = some f → ¬ (f.uid = u ∧ f.expected = o)) → s.lanes[k].lateRun = some ⟨u, o⟩ →
      exec (.requestTake (oneBeat k a b)) s = .next { s with
        lanes := s.lanes.set k { s.lanes[k] with
          lateRun := if b.enables.all = true ∧ o ≠ (s.profile u.window).dataSize then some ⟨u, o + 4⟩ else none }
        responses := s.responses.set k (some ⟨.okay, []⟩) })

/-! ### Overrides -/

/-- R17: what the take of an overriding piece does to the unit: its ungranted entries are removed and its postings cut short;
its fold is stopped and the buffer FREE; its repair is ended; its context is released, the granules joining the free list's
tail in list order; its settle-map entry is set, OVERRIDES counts and OVERRIDE is set. Work on other units stands. -/
def Obligations.OverrideWithdrawsTheUnit : Prop :=
  ∀ (s : State) (u : UnitId), s.UnitsDistinct →
    let t := s.overrideUnit u
    t.queue = s.queue.filter (fun e => e.owner != some u)
    ∧ t.postings = s.postings.filter (fun x => x.owner != some u)
    ∧ (∀ r, s.fold = some r → r.pass.uid = u →
        t.fold = none ∧ (t.lanes[r.pass.lane].buffer r.pass.buffer) = .free)
    ∧ ((∀ r, s.fold = some r → r.pass.uid ≠ u) → t.fold = s.fold ∧ t.lanes = s.lanes)
    ∧ (∀ r, s.repair = some r → r.uid = u → t.repair = none)
    ∧ ((∀ r, s.repair = some r → r.uid ≠ u) → t.repair = s.repair)
    ∧ (∀ i, i ∈ t.repairQueue ↔ i ∈ s.repairQueue ∧ ∀ c, s.contexts[i] = some c → c.uid ≠ u)
    ∧ t.findContext u = none
    ∧ (∀ i c, s.findContext u = some i → s.contexts[i] = some c →
        t.contexts = s.contexts.set i none ∧ t.freeList = s.freeList ++ c.granules)
    ∧ (s.findContext u = none → t.contexts = s.contexts ∧ t.freeList = s.freeList)
    ∧ t.isSettled u = true
    ∧ t.windows = s.windows.set u.window { s.windows[u.window] with
        settled := insertAsc u.unit s.windows[u.window].settled
        counters := { s.windows[u.window].counters with overrides := satInc s.windows[u.window].counters.overrides } }
    ∧ t.flags = s.flags ||| 0x040
    ∧ t.runCount = (if s.queue.filter (fun e => e.owner != some u) = [] then 0 else s.runCount)
    ∧ t.foldQueue = s.foldQueue ∧ t.ring = s.ring ∧ t.through = s.through ∧ t.votes = s.votes
    ∧ t.active = s.active ∧ t.holds = s.holds ∧ s.Untouched t

/-- R16 to R18: a direct-class write of one beat with an enabled data or check byte is forwarded with an override record, and the
unit, which has no work under way here, becomes SETTLED, counted and flagged. Held reads stand: the take of a request is no
test event (R148). -/
def Obligations.DirectWriteOverridesAnIdleUnit : Prop :=
  ∀ (k : Fin 4) (a : Addr) (b : Beat) (u : UnitId) (o : Nat) (r : Region) (closing : Bool) (s : State),
    s.Still → s.Takes (oneBeat k a b) → classifyBeat s.windows k a = .slot u o r false closing → r ≠ .verdict →
    b.enables.any = true → s.findContext u = none → (∀ e ∈ s.queue, e.owner ≠ some u) → (∀ x ∈ s.postings, x.owner ≠ some u) →
    (∀ x, s.fold = some x → x.pass.uid ≠ u) → (∀ x, s.repair = some x → x.uid ≠ u) →
    exec (.requestTake (oneBeat k a b)) s = .next { s with
      windows := s.windows.set u.window { s.windows[u.window] with
        settled := insertAsc u.unit s.windows[u.window].settled
        counters := { s.windows[u.window].counters with overrides := satInc s.windows[u.window].counters.overrides } }
      flags := s.flags ||| 0x040
      runCount := if s.queue = [] then 0 else s.runCount
      through := s.through ++ [⟨k, a, .write [b],
        some ⟨u, (s.profile u.window).slotAddr u.unit, (s.profile u.window).dataSize, 0, 0, 0, .none⟩⟩]
      active := s.active ++ [⟨k, [], 1, false, false, false⟩] }

/-! ### The memory port -/

/-- R136, R137: with no candidate nothing is granted (log 1: the model's choice); the queue head is granted when it is the only candidate, when a read is
held, when the queue holds 12 entries or more, or when the run count is 8; otherwise the oldest forwardable
through-transaction is granted. -/
def Obligations.ArbiterChoosesByTheTable : Prop :=
  ∀ s : State, s.run ≠ .held →
    (s.throughCandidate = none → s.queue = [] → exec .grant s = .next s)
    ∧ (∀ e q, s.queue = e :: q →
        (s.throughCandidate = none ∨ (∃ k : Fin 4, s.holds[k] ≠ none) ∨ 12 ≤ s.queue.length ∨ s.runCount = 8) →
        ∃ t, exec .grant s = .next t
          ∧ t.issued = s.issued ++ [⟨.writeBack e.kind, e.addr,
              .write (e.beats.map (fun q => ⟨q, ⟨true, true, true, true⟩⟩))⟩])
    ∧ (∀ x rest, s.throughCandidate = some (x, rest) →
        (s.queue = [] ∨ ((∀ k : Fin 4, s.holds[k] = none) ∧ s.queue.length < 12 ∧ s.runCount ≠ 8)) →
        ∃ t, exec .grant s = .next t ∧ t.issued = s.issued ++ [⟨.initiator x.initiator, x.addr, x.transfer⟩])

/-- R131, R67, R76: the granted head leaves the queue and sets the run count to 0; a counted entry lowers its owner's
outstanding count by one, and releases the owner's context when it is DRAINING with its posting complete and this was its
last outstanding entry; in a CLOSING window without other context or pass that ends the drain (R31): OFF, CLOSED set, late
runs removed. R148: each held read is tested after it, and released when no counted overlap is left to it. -/
def Obligations.GrantOfTheQueueHead : Prop :=
  (∀ (s : State) (e : Entry) (q : List Entry),
    s.run ≠ .held → s.Still → s.postings = [] → (∀ k : Fin 4, s.holds[k] = none) → s.queue = e :: q →
    (s.throughCandidate = none ∨ 12 ≤ s.queue.length ∨ s.runCount = 8) →
    let issued := s.issued ++ [⟨.writeBack e.kind, e.addr, .write (e.beats.map (fun q => ⟨q, ⟨true, true, true, true⟩⟩))⟩]
    (e.counted = false ∨ e.owner = none →
      exec .grant s = .next { s with queue := q, runCount := 0, issued := issued })
    ∧ (∀ u i c, e.counted = true → e.owner = some u → s.findContext u = some i → s.contexts[i] = some c →
        1 ≤ c.outstanding → ¬ (c.state = .draining ∧ c.posting = false ∧ c.outstanding = 1) →
        exec .grant s = .next { s with
          queue := q, runCount := 0, issued := issued
          contexts := s.contexts.set i (some { c with outstanding := c.outstanding - 1 }) })
    ∧ (∀ u i c, e.counted = true → e.owner = some u → s.findContext u = some i → s.contexts[i] = some c →
        c.state = .draining → c.posting = false → c.outstanding = 1 → s.windows[u.window].state ≠ .closing →
        exec .grant s = .next { s with
          queue := q, runCount := 0, issued := issued
          contexts := s.contexts.set i none
          freeList := s.freeList ++ c.granules })
    ∧ (∀ u i c, e.counted = true → e.owner = some u → s.findContext u = some i → s.contexts[i] = some c →
        c.state = .draining → c.posting = false → c.outstanding = 1 → s.windows[u.window].state = .closing →
        s.passQuiet u.window = true → s.windowContexts u.window = [i] →
        exec .grant s = .next { s with
          queue := q, runCount := 0, issued := issued
          contexts := s.contexts.set i none
          freeList := s.freeList ++ c.granules
          windows := s.windows.set u.window { s.windows[u.window] with state := .off }
          lanes := s.lanes.map (fun l => if l.runsLate u.window then { l with lateRun := none } else l)
          flags := s.flags ||| 0x080 }))
  ∧ ∀ (s : State) (e : Entry) (q : List Entry),
    s.run ≠ .held → s.Still → s.postings = [] → s.queue = e :: q →
    (s.throughCandidate = none ∨ (∃ k : Fin 4, s.holds[k] ≠ none) ∨ 12 ≤ s.queue.length ∨ s.runCount = 8) →
    let granted : State := { s with
      queue := q, runCount := 0
      issued := s.issued ++ [⟨.writeBack e.kind, e.addr, .write (e.beats.map (fun q => ⟨q, ⟨true, true, true, true⟩⟩))⟩] }
    let tested := s.holds.map (Option.filter (fun h => granted.overlaps h.addr h.count != []))
    (e.counted = false ∨ e.owner = none → exec .grant s = .next { granted with holds := tested })
    ∧ ∀ u i c, e.counted = true → e.owner = some u → s.findContext u = some i → s.contexts[i] = some c →
        1 ≤ c.outstanding → ¬ (c.state = .draining ∧ c.posting = false ∧ c.outstanding = 1) →
        exec .grant s = .next { granted with
          contexts := s.contexts.set i (some { c with outstanding := c.outstanding - 1 }), holds := tested }

/-- R12, R136, R138: a granted through-transaction without an override record leaves the through order and is issued unchanged;
the run count rises by one when the queue is not empty. The candidate is the oldest through-transaction that is not a held
read. -/
def Obligations.GrantOfAThroughTransaction : Prop :=
  (∀ (s : State) (x : Through) (rest : List Through), s.throughCandidate = some (x, rest) ↔
    ∃ older younger, s.through = older ++ x :: younger ∧ rest = older ++ younger
      ∧ ¬ ((∃ n, x.transfer = .read n) ∧ s.holds[x.initiator] ≠ none)
      ∧ ∀ y ∈ older, (∃ n, y.transfer = .read n) ∧ s.holds[y.initiator] ≠ none)
  ∧ ∀ (s : State) (x : Through) (rest : List Through),
    s.run ≠ .held → s.throughCandidate = some (x, rest) → x.record = none →
    (s.queue = [] ∨ ((∀ k : Fin 4, s.holds[k] = none) ∧ s.queue.length < 12 ∧ s.runCount ≠ 8)) →
    exec .grant s = .next { s with
      through := rest
      issued := s.issued ++ [⟨.initiator x.initiator, x.addr, x.transfer⟩]
      runCount := if s.queue = [] then s.runCount else s.runCount + 1 }

/-- R18: at the grant of an overriding piece a one-beat TRAILER with the OVERRIDDEN verdict word of its record enters the queue,
uncounted, at the slot's verdict word; with the ring disabled its notice is discarded. That the verdict word lies at the
slot's D as it stood at the take is the model's choice (log 10): the record of R18 lists no D. -/
def Obligations.OverridePostingFollowsItsPiece : Prop :=
  ∀ (s : State) (x : Through) (rest : List Through) (r : OverrideRecord),
    s.run ≠ .held → s.Still → s.postings = [] → (∀ k : Fin 4, s.holds[k] = none) → s.ring.enabled = false →
    s.throughCandidate = some (x, rest) → x.record = some r → s.queue.length < 12 → (s.queue = [] ∨ s.runCount ≠ 8) →
    exec .grant s = .next { s with
      through := rest
      issued := s.issued ++ [⟨.initiator x.initiator, x.addr, x.transfer⟩]
      runCount := if s.queue = [] then s.runCount else s.runCount + 1
      queue := s.queue ++ [⟨.trailer, r.slotAddr + BitVec.ofNat 32 (r.dataSize + 4),
        [⟨0x09, BitVec.ofNat 8 r.passes, BitVec.ofNat 8 (min r.weak 255), 0x00⟩], some r.uid, false⟩] }

/-- R13, R149: memory's answer to a forwarded read goes to its initiator with memory's data; FAULT stays FAULT, and OKAY becomes
STALE for an expired read. Flags and the fault record stand. -/
def Obligations.ReadAnswerIsRouted : Prop :=
  ∀ (s : State) (k : Fin 4) (a : Addr) (n : Nat) (rest : List Issued) (x : Active) (code : MemCode) (data : List Quad),
    takeFirst Issued.isThrough s.issued = some (⟨.initiator k, a, .read n⟩, rest) →
    s.active.find? (fun y => y.initiator == k) = some x →
    exec (.throughResponse code data) s = .next { s with
      issued := rest
      active := s.active.filter (fun y => y.initiator != k)
      responses := s.responses.set k (some ⟨if code = .fault then .fault else if x.stale = true then .stale else .okay, data⟩) }

/-- R13: a write is answered when its last piece has been absorbed or answered, FAULT when a forwarded piece was answered FAULT
and OKAY otherwise; until then only the piece is counted off. -/
def Obligations.WriteAnswersAreCombined : Prop :=
  ∀ (s : State) (k : Fin 4) (a : Addr) (beats : List Beat) (rest : List Issued) (x : Active) (code : MemCode)
    (data : List Quad),
    takeFirst Issued.isThrough s.issued = some (⟨.initiator k, a, .write beats⟩, rest) →
    s.active.find? (fun y => y.initiator == k) = some x →
    (x.waiting = [] → x.inFlight = 1 →
      exec (.throughResponse code data) s = .next { s with
        issued := rest
        active := s.active.filter (fun y => y.initiator != k)
        responses := s.responses.set k (some ⟨if x.faulted = true ∨ code = .fault then .fault else .okay, []⟩) })
    ∧ (x.waiting ≠ [] ∨ 2 ≤ x.inFlight →
      exec (.throughResponse code data) s = .next { s with
        issued := rest
        active := s.active.map (fun y => if y.initiator = k then
          { x with inFlight := x.inFlight - 1, faulted := x.faulted || code == .fault } else y) })

/-- R134, R135: a FAULT answer to the part's own write sets FAULT and fills an empty fault record, a held one stands; an OKAY
answer has no effect; an answer that belongs to no write of the part is not taken (log 9). -/
def Obligations.WriteBackAnswerFillsTheFaultRecord : Prop :=
  ∀ (s : State),
    (∀ kind a x rest, takeFirst Issued.isWriteBack s.issued = some (⟨.writeBack kind, a, x⟩, rest) →
      exec (.writeBackAnswer .okay) s = .next { s with issued := rest }
      ∧ (s.faultRecord = none → exec (.writeBackAnswer .fault) s = .next { s with
          issued := rest, flags := s.flags ||| 0x400, faultRecord := some ⟨a, kind⟩ })
      ∧ (s.faultRecord ≠ none → exec (.writeBackAnswer .fault) s = .next { s with
          issued := rest, flags := s.flags ||| 0x400 }))
    ∧ (takeFirst Issued.isWriteBack s.issued = none → ∀ code, exec (.writeBackAnswer code) s = .next s)

/-! ### The fold engine -/

/-- R82, R81: a staged pass whose unit is SETTLED, or whose context stands at the pass limit, is discarded at its fold start:
the buffer FREE, PASSES_LATE counted, LATE set, and nothing else. -/
def Obligations.LatePassAtFoldStart : Prop :=
  ∀ (s : State) (p : StagedPass),
    s.Calm → s.fold = none → s.foldQueue = [p] →
    (s.isSettled p.uid = true ∨ ∃ i c, s.findContext p.uid = some i ∧ s.contexts[i] = some c
      ∧ (s.profile p.uid.window).passLimit ≤ c.passes) →
    exec .foldStart s = .next { s with
      foldQueue := []
      lanes := s.lanes.set p.lane (s.lanes[p.lane].setBuffer p.buffer .free)
      windows := s.windows.set p.uid.window { s.windows[p.uid.window] with
        counters := { s.windows[p.uid.window].counters with passesLate := satInc s.windows[p.uid.window].counters.passesLate } }
      flags := s.flags ||| 0x008 }

/-- R71, R59, R60: admission takes the lowest-numbered free context slot and the first G granules of the free list, clears their
cells, creates the context with its values at admission in FOLDING, and the engine enters UPDATING; no counter and no flag
changes. -/
def Obligations.AdmissionAtFoldStart : Prop :=
  ∀ (s : State) (p : StagedPass) (i : Fin 32),
    s.Calm → s.fold = none → s.foldQueue = [p] → s.isSettled p.uid = false → s.findContext p.uid = none →
    s.contexts[i] = none → (∀ j : Fin 32, j < i → s.contexts[j] ≠ none) →
    (s.profile p.uid.window).granuleCount ≤ s.freeList.length → VotesWf s.votes →
    let g := (s.profile p.uid.window).granuleCount
    ∃ votes, exec .foldStart s = .next { s with
        foldQueue := []
        contexts := s.contexts.set i (some
          ⟨p.uid, .folding, 0, 0, s.freeList.take g, [], [], 0, .none, [], 0, false⟩)
        freeList := s.freeList.drop g
        votes := votes
        fold := some ⟨p, .updating i⟩ }
      ∧ (∀ h ∈ s.freeList.take g, readGranule h votes = List.replicate 1024 ⟨0, false⟩)
      ∧ (∀ h, h ∉ s.freeList.take g → readGranule h votes = readGranule h s.votes)

/-- R73, R74: without a free context slot, or with fewer than G free granules, the fold start is a denial: DENIALS counted, DENIED
set, and the fold becomes a raw posting of every chunk, the trailer and the notice, which waits here behind a full
queue. No context is created and the settle map stands. -/
def Obligations.DenialAtFoldStart : Prop :=
  ∀ (s : State) (p : StagedPass),
    s.Calm → s.fold = none → s.foldQueue = [p] → s.isSettled p.uid = false → s.findContext p.uid = none →
    ((∀ j : Fin 32, s.contexts[j] ≠ none) ∨ s.freeList.length < (s.profile p.uid.window).granuleCount) →
    s.queue.length = 16 →
    let clean := passClean (s.profile p.uid.window) (s.passContent p)
    exec .foldStart s = .next { s with
      foldQueue := []
      windows := s.windows.set p.uid.window { s.windows[p.uid.window] with
        counters := { s.windows[p.uid.window].counters with denials := satInc s.windows[p.uid.window].counters.denials } }
      flags := s.flags ||| 0x010
      fold := some ⟨p, .raw clean⟩
      postings := [⟨.raw p clean, some p.uid,
        (List.range ((s.profile p.uid.window).dataSize / 64)).map PostStep.chunk ++ [.trailer, .notice]⟩] }

/-- R63, R83, R119: a fold start of a unit with a context below the pass limit makes the context FOLDING; it leaves the repair
queue, or its search is cancelled without a result; no counter and no flag changes. -/
def Obligations.FoldStartOnAHeldContext : Prop :=
  ∀ (s : State) (p : StagedPass) (i : Fin 32) (c : Context),
    { s with repairQueue := [] }.Calm → (∀ j ∈ s.repairQueue, j = i) → s.fold = none → s.foldQueue = [p] →
    s.isSettled p.uid = false → s.findContext p.uid = some i → s.contexts[i] = some c →
    c.passes < (s.profile p.uid.window).passLimit →
    exec .foldStart s = .next { s with
      foldQueue := []
      repairQueue := []
      repair := (match s.repair with
        | some r => if r.slot = i then none else some r
        | none => none)
      contexts := s.contexts.set i (some { c with state := .folding })
      fold := some ⟨p, .updating i⟩ }

/-- R93, R96, R97: the settle evaluation writes passes folded, clean passes and the weak count, decides the outcome, and begins the
posting, which waits here behind a full queue. A final outcome sets the settle-map entry, moves the context to DRAINING, counts
the verdict and sets SUCCEEDED or FAILED; REPAIR and OPEN leave it FOLDING. -/
def Obligations.SettleEvaluationWritesTheOutcome : Prop :=
  ∀ (s : State) (pass : StagedPass) (i : Fin 32) (c : Context),
    s.Calm → s.fold = some ⟨pass, .updating i⟩ → s.contexts[i] = some c → s.queue.length = 16 →
    let p := s.profile pass.uid.window
    let clean := passClean p (s.passContent pass)
    let votes := updateGranules (if clean then p.cleanWeight else 1) c.granules (passBits p (s.passContent pass)) s.votes
    let before := (unitCells p c.granules s.votes).map Cell.fused
    let cells := unitCells p c.granules votes
    let after := cells.map Cell.fused
    let weak := weakCount p.weakThreshold cells
    let decided := settleOutcome p (c.passes + 1) weak (syndrome p after == 0)
    let dirty := chunkTest p c.dirty c.written (changedChunks p before after)
    let window := s.windows[pass.uid.window]
    exec .settleEvaluation s = .next { s with
      contexts := s.contexts.set i (some { c with
        state := if decided.1.final then .draining else .folding
        passes := c.passes + 1
        clean := if clean then c.clean + 1 else c.clean
        weak := weak
        dirty := dirty
        lastRepair := decided.2.getD c.lastRepair
        posting := true })
      votes := votes
      fold := some ⟨pass, .posting i decided.1⟩
      windows := if decided.1.final then s.windows.set pass.uid.window { window with
        settled := insertAsc pass.uid.unit window.settled
        counters := window.counters.bump decided.1.verdict.counter } else s.windows
      flags := if decided.1.final then s.flags ||| (if decided.1 = .exhausted then 0x002 else 0x001) else s.flags
      postings := [⟨.fold i decided.1, some pass.uid,
        dirty.map PostStep.chunk ++ (if decided.1.final then [.trailer, .notice] else [.trailer])⟩] }

/-- R94 and R95: the outcome of a settle evaluation, row by row, with the last repair outcome recorded. -/
def Obligations.SettleOutcomeTables : Prop :=
  ∀ (p : Profile) (n w : Nat) (isMatch : Bool),
    (p.checkKind = .none →
      (p.minPasses ≤ n ∧ w = 0 → settleOutcome p n w isMatch = (.agreed, none))
      ∧ (¬ (p.minPasses ≤ n ∧ w = 0) → p.passLimit ≤ n → settleOutcome p n w isMatch = (.exhausted, none))
      ∧ (¬ (p.minPasses ≤ n ∧ w = 0) → n < p.passLimit → settleOutcome p n w isMatch = (.opened, none)))
    ∧ (p.checkKind ≠ .none →
      (isMatch = true → p.minPasses ≤ n → settleOutcome p n w isMatch = (.good, none))
      ∧ (isMatch = true → n < p.minPasses → settleOutcome p n w isMatch = (.opened, none))
      ∧ (isMatch = false → p.minPasses ≤ n → 1 ≤ w → w ≤ p.candidateLimit → settleOutcome p n w isMatch = (.repair, none))
      ∧ (isMatch = false → p.minPasses ≤ n → w = 0 → p.passLimit ≤ n →
          settleOutcome p n w isMatch = (.exhausted, some .nocandidates))
      ∧ (isMatch = false → p.minPasses ≤ n → 1 ≤ w → p.candidateLimit < w → p.passLimit ≤ n →
          settleOutcome p n w isMatch = (.exhausted, some .overlimit))
      ∧ (isMatch = false → p.minPasses ≤ n → w = 0 → n < p.passLimit →
          settleOutcome p n w isMatch = (.opened, some .nocandidates))
      ∧ (isMatch = false → p.minPasses ≤ n → 1 ≤ w → p.candidateLimit < w → n < p.passLimit →
          settleOutcome p n w isMatch = (.opened, some .overlimit))
      ∧ (isMatch = false → n < p.minPasses → p.passLimit ≤ n → settleOutcome p n w isMatch = (.exhausted, none))
      ∧ (isMatch = false → n < p.minPasses → n < p.passLimit → settleOutcome p n w isMatch = (.opened, none)))

/-- R88, R89, R87: the pass's weight is added for a 1 and subtracted for a 0, stored within -7 to +7; the fused bit follows the
sign and a tie keeps it. A fold updates every tallied cell of the unit by the pass bit of its position, and no other granule. -/
def Obligations.FoldUpdatesTheTallies : Prop :=
  (∀ (c : Cell) (w : Nat) (bit : Bool),
    let sum : Int := if bit then c.tally + w else c.tally - w
    let new := c.update w bit
    (7 < sum → new.tally = 7) ∧ (sum < -7 → new.tally = -7) ∧ (-7 ≤ sum → sum ≤ 7 → new.tally = sum)
    ∧ (0 < new.tally → new.fused = true) ∧ (new.tally < 0 → new.fused = false) ∧ (new.tally = 0 → new.fused = c.fused))
  ∧ ∀ (p : Profile) (votes : List (Nat × List Cell)) (granules : List Nat) (w : Nat) (bits : List Bool),
      VotesWf votes → granules.Nodup → granules.length = p.granuleCount →
      (∀ g ∈ granules, (readGranule g votes).length = 1024) → bits.length = p.tallied →
      unitCells p granules (updateGranules w granules bits votes)
        = List.zipWith (Cell.update w) (unitCells p granules votes) bits
      ∧ ∀ g, g ∉ granules → readGranule g (updateGranules w granules bits votes) = readGranule g votes

/-! ### Postings, ring -/

/-- R129, R128, R66, R67: the next entry of the feeding posting takes the last place of the queue. Of a fold, repair or drain
posting a CHUNK entry carries the fused bits of its 64 bytes, with the flip list applied under REPAIRED (R98, R116), joins
the written-chunk set and leaves the dirty-chunk set; the TRAILER carries the check field and the verdict word (R99, R118,
R29); either raises the outstanding count by one. A raw posting carries the bytes of its pass, uncounted (R74). With the
trailer of a fold whose outcome is OPEN or REPAIR the fold is complete (R102, R105): PASSES_FOLDED counts, the pass's buffer
is FREE, the engine idle, the context OPEN or at the repair queue's tail in REPAIR_WAIT. -/
def Obligations.EntryTakesTheLastPlace : Prop :=
  (∀ (s : State) (x : Posting) (rest : List Posting) (u : UnitId) (i : Fin 32) (c : Context),
    s.postings = x :: rest → x.owner = some u → x.poster.slot = some i → s.contexts[i] = some c → c.uid = u →
    let p := s.profile u.window
    let slot := p.base + BitVec.ofNat 32 (u.unit * (p.dataSize + 8))
    let flips := if x.poster = .repair i .repaired then c.flips else []
    let bits := flipFrom flips 0 ((unitCells p c.granules s.votes).map Cell.fused)
    let code : Byte := match x.poster with
      | .fold _ .good => 2
      | .fold _ .agreed => 4
      | .fold _ .exhausted => 5
      | .fold _ _ => 1
      | .repair _ v => BitVec.ofNat 8 v.code
      | _ => 6
    let trailer : Entry := ⟨.trailer, slot + BitVec.ofNat 32 p.dataSize,
      quadsOfBytes ((bytesOfBits (bits.drop (8 * p.dataSize)) ++ [0, 0, 0, 0]).take 4)
        ++ [⟨code, BitVec.ofNat 8 c.passes, BitVec.ofNat 8 (min c.weak 255), BitVec.ofNat 8 flips.length⟩], some u, true⟩
    (∀ j next more, { s with postings := [] }.Calm → s.FoldSettled → s.queue.length = 15 →
      x.steps = .chunk j :: next :: more → next ≠ .notice →
      exec .entryEntersQueue s = .next { s with
        queue := s.queue ++ [⟨.chunk, slot + BitVec.ofNat 32 (64 * j),
          quadsOfBytes (bytesOfBits ((bits.drop (512 * j)).take 512)), some u, true⟩]
        contexts := s.contexts.set i (some { c with
          outstanding := c.outstanding + 1, written := insertAsc j c.written, dirty := removeAsc j c.dirty })
        postings := { x with steps := next :: more } :: rest })
    ∧ ({ s with postings := [] }.Calm → s.FoldSettled → s.queue.length = 15 → x.steps = [.trailer, .notice] →
      s.ring.enabled = true → s.ring.full = false →
      exec .entryEntersQueue s = .next { s with
        queue := s.queue ++ [trailer]
        contexts := s.contexts.set i (some { c with outstanding := c.outstanding + 1 })
        postings := { x with steps := [.notice] } :: rest })
    ∧ (∀ (o : FoldOutcome) (r : FoldRecord), x.poster = .fold i o → o.final = false → x.steps = [.trailer] →
      s.fold = some r → s.queue.length < 16 → (∀ k : Fin 4, s.holds[k] = none) →
      let t := { s with
        queue := s.queue ++ [trailer]
        postings := rest
        fold := none
        lanes := s.lanes.set r.pass.lane (s.lanes[r.pass.lane].setBuffer r.pass.buffer .free)
        windows := s.windows.set u.window { s.windows[u.window] with
          counters := { s.windows[u.window].counters with passesFolded := satInc s.windows[u.window].counters.passesFolded } }
        contexts := s.contexts.set i (some { c with
          outstanding := c.outstanding + 1, posting := false, state := if o = .repair then .repairWait else .opened })
        repairQueue := if o = .repair then s.repairQueue ++ [i] else s.repairQueue }
      t.Still → exec .entryEntersQueue s = .next t))
  ∧ ∀ (s : State) (pass : StagedPass) (clean : Bool) (u : UnitId) (steps : List PostStep) (rest : List Posting),
    { s with postings := [] }.Calm → s.FoldSettled → s.postings = ⟨.raw pass clean, some u, steps⟩ :: rest →
    s.queue.length = 15 →
    let p := s.profile u.window
    let slot := p.base + BitVec.ofNat 32 (u.unit * (p.dataSize + 8))
    let bits := passBits p (s.lanes[pass.lane].buffer pass.buffer).content
    (∀ j next more, steps = .chunk j :: next :: more → next ≠ .notice →
      exec .entryEntersQueue s = .next { s with
        queue := s.queue ++ [⟨.chunk, slot + BitVec.ofNat 32 (64 * j),
          quadsOfBytes (bytesOfBits ((bits.drop (512 * j)).take 512)), some u, false⟩]
        postings := ⟨.raw pass clean, some u, next :: more⟩ :: rest })
    ∧ (steps = [.trailer, .notice] → s.ring.enabled = true → s.ring.full = false →
      exec .entryEntersQueue s = .next { s with
        queue := s.queue ++ [⟨.trailer, slot + BitVec.ofNat 32 p.dataSize,
          quadsOfBytes ((bytesOfBits (bits.drop (8 * p.dataSize)) ++ [0, 0, 0, 0]).take 4)
            ++ [⟨if clean then 7 else 8, 1, 0, 0⟩], some u, false⟩]
        postings := ⟨.raw pass clean, some u, [.notice]⟩ :: rest })

/-- R160, R161: the fate of a notice handed over, for every state of the writer: discarded with the ring disabled; placed with
the ring enabled, the backlog empty and the ring not full, as soon as the queue has room; to the backlog; dropped with
RING_LOST when that holds eight. Whatever its fate, the notice is the last step of its posting, which is then complete. That
of an override changes nothing else. That of a raw posting ends the fold and frees the buffer (R74); that of a fold also counts
PASSES_FOLDED (R102); those of a fold, a repair and a drain end the context's posting, and release it when none of its
entries is outstanding (R76, R117, R29). -/
def Obligations.NoticeFates : Prop :=
  (∀ (s : State) (n : Notice),
    (s.ring.enabled = false → s.acceptNotice n = some s)
    ∧ (s.ring.enabled = true → s.ring.backlog = [] → s.ring.full = false → s.queue.length < 16 →
        s.acceptNotice n = some { s with
          queue := s.queue ++ [⟨.ring, s.ring.write, quadsOfBytes (n.bytes s.ring.sequence), none, false⟩]
          ring := { s.ring with write := s.ring.advance s.ring.write, sequence := s.ring.sequence + 1 }
          flags := s.flags ||| 0x100 })
    ∧ (s.ring.enabled = true → s.ring.backlog = [] → s.ring.full = false → 16 ≤ s.queue.length → s.acceptNotice n = none)
    ∧ (s.ring.enabled = true → (s.ring.backlog ≠ [] ∨ s.ring.full = true) → s.ring.backlog.length < 8 →
        s.acceptNotice n = some { s with ring := { s.ring with backlog := s.ring.backlog ++ [n] } })
    ∧ (s.ring.enabled = true → (s.ring.backlog ≠ [] ∨ s.ring.full = true) → 8 ≤ s.ring.backlog.length →
        s.acceptNotice n = some { s with flags := s.flags ||| 0x200 }))
  ∧ (∀ (s : State) (r : OverrideRecord) (u : UnitId),
      { s with postings := [] }.Calm → s.FoldSettled → s.postings = [⟨.override r, some u, [.notice]⟩] →
      let n : Notice := ⟨u, .overridden, r.passes, r.weak, [], r.lastRepair, r.clean⟩
      (s.ring.enabled = false → exec .noticeAccepted s = .next { s with postings := [] })
      ∧ (s.ring.enabled = true → s.ring.full = false → s.queue.length < 16 →
          exec .noticeAccepted s = .next { s with
            postings := []
            queue := s.queue ++ [⟨.ring, s.ring.write, quadsOfBytes (n.bytes s.ring.sequence), none, false⟩]
            ring := { s.ring with write := s.ring.advance s.ring.write, sequence := s.ring.sequence + 1 }
            flags := s.flags ||| 0x100 })
      ∧ (s.ring.enabled = true → s.ring.full = true →
          exec .noticeAccepted s = .next { s with postings := [], ring := { s.ring with backlog := [n] } }))
  ∧ ∀ (s taken : State) (x : Posting) (rest : List Posting) (u : UnitId),
      s.postings = x :: rest → x.steps = [.notice] → x.owner = some u → (∀ k : Fin 4, s.holds[k] = none) →
      let idle : FoldRecord → Vector Lane 4 := fun r =>
        s.lanes.set r.pass.lane (s.lanes[r.pass.lane].setBuffer r.pass.buffer .free)
      let left : Fin 32 → Context → Vector (Option Context) 32 := fun i c =>
        s.contexts.set i (if c.outstanding = 0 then none else some { c with posting := false, state := .draining })
      let freed : Context → List Nat := fun c => if c.outstanding = 0 then s.freeList ++ c.granules else s.freeList
      (∀ r, x.poster = .override r →
        s.acceptNotice ⟨u, .overridden, r.passes, r.weak, [], r.lastRepair, r.clean⟩ = some taken →
        let t := { taken with postings := rest }
        t.Still → exec .noticeAccepted s = .next t)
      ∧ (∀ pass clean r, x.poster = .raw pass clean → s.fold = some r →
        s.acceptNotice ⟨u, if clean then .rawClean else .raw, 1, 0, [], .none, if clean then 1 else 0⟩ = some taken →
        let t := { taken with postings := rest, fold := none, lanes := idle r }
        t.Still → exec .noticeAccepted s = .next t)
      ∧ (∀ i o r c, x.poster = .fold i o → o.final = true → s.fold = some r → s.contexts[i] = some c →
        s.acceptNotice ⟨u, o.verdict, c.passes, c.weak, [], c.lastRepair, c.clean⟩ = some taken →
        let t := { taken with
          postings := rest, fold := none, lanes := idle r, contexts := left i c, freeList := freed c
          windows := s.windows.set u.window { s.windows[u.window] with
            counters := { s.windows[u.window].counters with
              passesFolded := satInc s.windows[u.window].counters.passesFolded } } }
        t.Still → exec .noticeAccepted s = .next t)
      ∧ (∀ i v c, x.poster = .repair i v → s.contexts[i] = some c → c.state = .draining →
        s.acceptNotice ⟨u, v, c.passes, c.weak, if v = .repaired then c.flips else [], c.lastRepair, c.clean⟩ = some taken →
        let t := { taken with postings := rest, repair := none, contexts := left i c, freeList := freed c }
        t.Still → exec .noticeAccepted s = .next t)
      ∧ ∀ i c, x.poster = .drain i → s.contexts[i] = some c → c.state = .draining →
        s.acceptNotice ⟨u, .unsettled, c.passes, c.weak, [], c.lastRepair, c.clean⟩ = some taken →
        let t := { taken with postings := rest, contexts := left i c, freeList := freed c }
        t.Still → exec .noticeAccepted s = .next t

/-! ### The repair engine -/

/-- R107, R108: the take of the repair queue's head moves its context to REPAIRING and starts the search with the candidates and
the syndrome of its tally cells, no subset examined yet; nothing is posted. -/
def Obligations.RepairTakeStartsTheSearch : Prop :=
  ∀ (s : State) (i : Fin 32) (rest : List (Fin 32)) (c : Context),
    { s with repairQueue := [] }.Calm → s.FoldSettled → s.repair = none → s.repairQueue = i :: rest →
    s.contexts[i] = some c →
    let p := s.profile c.uid.window
    let cells := unitCells p c.granules s.votes
    exec .repairTake s = .next { s with
      repairQueue := rest
      contexts := s.contexts.set i (some { c with state := .repairing })
      repair := some ⟨i, c.uid, .searching (candidates p cells) (syndrome p (cells.map Cell.fused)) 0⟩ }

/-- R113 to R117: in a window that is not CLOSING, FOUND gives REPAIRED with the flip list and its chunks, NOMATCH and AMBIGUOUS give EXHAUSTED
at the pass limit, each posted behind a full queue here; below the limit the context returns to OPEN with nothing posted. -/
def Obligations.EndOfSearchingDecides : Prop :=
  ∀ (s : State) (i : Fin 32) (u : UnitId) (c : Context) (cands : List Nat) (syn : BitVec 32) (examined : Nat),
    s.Calm → s.FoldSettled → s.repair = some ⟨i, u, .searching cands syn examined⟩ → s.contexts[i] = some c → c.dirty = [] →
    let p := s.profile c.uid.window
    let found := search p cands syn
    let window := s.windows[c.uid.window]
    (found.1 ≠ .found → c.passes < p.passLimit →
      exec .endOfSearching s = .next { s with
        contexts := s.contexts.set i (some { c with state := .opened, lastRepair := found.1, flips := [] })
        repair := none })
    ∧ (found.1 ≠ .found → p.passLimit ≤ c.passes → s.queue.length = 16 →
      exec .endOfSearching s = .next { s with
        contexts := s.contexts.set i (some { c with
          state := .draining, lastRepair := found.1, flips := [], posting := true })
        repair := some ⟨i, c.uid, .posting .exhausted⟩
        windows := s.windows.set c.uid.window { window with
          settled := insertAsc c.uid.unit window.settled
          counters := { window.counters with exhausted := satInc window.counters.exhausted } }
        flags := s.flags ||| 0x002
        postings := [⟨.repair i .exhausted, some c.uid, [.trailer, .notice]⟩] })
    ∧ (found.1 = .found → s.queue.length = 16 →
      exec .endOfSearching s = .next { s with
        contexts := s.contexts.set i (some { c with
          state := .draining, lastRepair := .found, flips := found.2, dirty := flipChunks p found.2, posting := true })
        repair := some ⟨i, c.uid, .posting .repaired⟩
        windows := s.windows.set c.uid.window { window with
          settled := insertAsc c.uid.unit window.settled
          counters := { window.counters with repaired := satInc window.counters.repaired } }
        flags := s.flags ||| 0x001
        postings := [⟨.repair i .repaired, some c.uid,
          (flipChunks p found.2).map PostStep.chunk ++ [.trailer, .notice]⟩] })

/-- R113, R114, R123: in a CLOSING window a search that is not FOUND and ends below the pass limit gives UNSETTLED: the context
DRAINING, the settle-map entry set, UNSETTLED counted, FAILED set, and a trailer and a notice posted, behind a full queue here. -/
def Obligations.EndOfSearchingInAClosingWindow : Prop :=
  ∀ (s : State) (i : Fin 32) (u : UnitId) (c : Context) (cands : List Nat) (syn : BitVec 32) (examined : Nat),
    s.Still → (∀ k : Fin 4, s.holds[k] = none) → s.postings = [] → s.queue.length = 16 →
    s.repair = some ⟨i, u, .searching cands syn examined⟩ → s.contexts[i] = some c → c.dirty = [] →
    s.windows[c.uid.window].state = .closing →
    let p := s.profile c.uid.window
    let found := search p cands syn
    let window := s.windows[c.uid.window]
    found.1 ≠ .found → c.passes < p.passLimit →
    exec .endOfSearching s = .next { s with
      contexts := s.contexts.set i (some { c with
        state := .draining, lastRepair := found.1, flips := [], posting := true })
      repair := some ⟨i, c.uid, .posting .unsettled⟩
      windows := s.windows.set c.uid.window { window with
        settled := insertAsc c.uid.unit window.settled
        counters := { window.counters with unsettled := satInc window.counters.unsettled } }
      flags := s.flags ||| 0x002
      postings := [⟨.repair i .unsettled, some c.uid, [.trailer, .notice]⟩] }

/-- R110: the contribution of a data position is the check value, with preset 0, of a message that is zero except at that
position; that of check position 8D + j is the bit 8c - 1 - j alone. -/
def Obligations.ContributionIsTheCheckOfOneBit : Prop :=
  ∀ (p : Profile), p.checkKind ≠ .none →
    (∀ k, k < 8 * p.dataSize →
      contribution p k = checkValue p.checkKind 0 (flipFrom [k] 0 (List.replicate (8 * p.dataSize) false)))
    ∧ ∀ j, j < 8 * p.checkWidth → contribution p (8 * p.dataSize + j) = 1 <<< (8 * p.checkWidth - 1 - j)

/-- Linearity of the check (05_tally_and_check_arithmetic.md): the check of a combination by exclusive OR is the check of the
first combined with the check of the second under preset 0. -/
def Obligations.CheckIsLinear : Prop :=
  ∀ (kind : CheckKind) (preset : BitVec 32) (x y : List Bool), x.length = y.length →
    checkValue kind preset (List.zipWith Bool.xor x y) = checkValue kind preset x ^^^ checkValue kind 0 y

/-- R111, R112: FOUND means that exactly one subset matches at the first size with a match, and its positions are the flip list;
AMBIGUOUS that two subsets match at that size; NOMATCH that no subset of a size from 1 to F matches. -/
def Obligations.SearchStopsAtTheSmallestMatch : Prop :=
  ∀ (p : Profile) (cands : List Nat) (s : BitVec 32), cands.Nodup →
    ((search p cands s).1 = .found → ∃ sub : List Nat, sub.Sublist cands ∧ 1 ≤ sub.length ∧ sub.length ≤ p.maxFlips
      ∧ combined p sub = s ∧ (search p cands s).2 = sortAsc sub
      ∧ ∀ other : List Nat, other.Sublist cands → 1 ≤ other.length → other.length ≤ sub.length → combined p other = s →
          other = sub)
    ∧ ((search p cands s).1 = .ambiguous → (search p cands s).2 = [] ∧ ∃ sub other : List Nat, sub ≠ other
      ∧ sub.Sublist cands ∧ other.Sublist cands ∧ sub.length = other.length ∧ 1 ≤ sub.length ∧ sub.length ≤ p.maxFlips
      ∧ combined p sub = s ∧ combined p other = s
      ∧ ∀ small : List Nat, small.Sublist cands → 1 ≤ small.length → small.length < sub.length → combined p small ≠ s)
    ∧ ((search p cands s).1 = .nomatch → (search p cands s).2 = [] ∧ ∀ sub : List Nat, sub.Sublist cands →
        1 ≤ sub.length → sub.length ≤ p.maxFlips → combined p sub ≠ s)
    ∧ ((search p cands s).1 = .found ∨ (search p cands s).1 = .ambiguous ∨ (search p cands s).1 = .nomatch)

/-- R110, R112, R116: what a FOUND outcome is for. The image posted, the fused bits with every position of the flip list inverted,
agrees with its own check: its syndrome is 0. -/
def Obligations.FoundRepairClearsTheSyndrome : Prop :=
  ∀ (p : Profile) (bits : List Bool) (cands flips : List Nat),
    p.checkKind ≠ .none → bits.length = p.tallied → cands.Nodup → (∀ k ∈ cands, k < p.tallied) →
    search p cands (syndrome p bits) = (.found, flips) → syndrome p (flipFrom flips 0 bits) = 0

/-! ### Maintenance commands -/

/-- R167: CLEAR-FLAGS clears the flags whose mask bit is 1 and no other, SET-ENABLES sets the twelve enables, READ-FLAGS returns
both; bits 12 to 15 are ignored and read 0; the result is OK. A setting event before the clear is removed by it, one after it
sets the flag again. CLEAR-FAULT leaves the flags. ATTN is driven while a set flag is enabled (R168). -/
def Obligations.FlagCommands : Prop :=
  (∀ (s : State) (f : Frame) (mask value : BitVec 16), s.Listening f →
    exec (.clearFlags mask) s = .next ({ s with flags := s.flags &&& ~~~(mask.setWidth 12) }.replied f 2 .ok [])
    ∧ exec (.setEnables value) s = .next ({ s with enables := value.setWidth 12 }.replied f 2 .ok [])
    ∧ exec .readFlags s = .next (s.replied f 0 .ok
        [s.flags.setWidth 8, (s.flags >>> 8).setWidth 8, s.enables.setWidth 8, (s.enables >>> 8).setWidth 8])
    ∧ (∃ t, exec .clearFault s = .next t ∧ t.flags = s.flags)
    ∧ ∀ x : Flag, mask.getLsbD x.bit = true →
      (∃ t, exec (.clearFlags mask) (s.setFlag x) = .next t ∧ t.flag x = false)
      ∧ ∃ t, exec (.clearFlags mask) s = .next t ∧ t.flag x = false ∧ (t.setFlag x).flag x = true)
  ∧ ∀ s : State, s.attnLow = true ↔ s.run ≠ .held ∧ ∃ x : Flag, s.flag x = true ∧ s.enables.getLsbD x.bit = true

/-- R176, R165, R177, R186: READ-STATUS returns its eleven bytes and clears the reset-since bit, READ-RING its nineteen bytes,
READ-FAULT its six, CLEAR-FAULT empties the fault record; nothing else changes. -/
def Obligations.ReportCommands : Prop :=
  ∀ (s : State) (f : Frame), s.Listening f →
    (∃ lo hi : Byte, exec .readStatus s = .next ({ s with resetSince := false }.replied f 0 .ok
        [lo, hi, BitVec.ofNat 8 ((List.finRange 32).countP (fun i => s.contexts[i] != none)),
         BitVec.ofNat 8 s.freeList.length, BitVec.ofNat 8 (s.freeList.length / 256),
         BitVec.ofNat 8 s.foldQueue.length, BitVec.ofNat 8 s.repairQueue.length, BitVec.ofNat 8 s.queue.length,
         BitVec.ofNat 8 ((List.finRange 4).countP (fun k => s.holds[k] != none)),
         BitVec.ofNat 8 s.ring.backlog.length, if s.resetCause = ResetCause.pin then 1 else 2])
      ∧ ∀ w : Fin 8, (lo.toNat + 256 * hi.toNat) / 4 ^ w.val % 4
          = if s.windows[w].state = .off then 0 else if s.windows[w].state = .active then 1 else 2)
    ∧ exec .readRing s = .next (s.replied f 0 .ok
        ([if s.ring.enabled then 1 else 0] ++ bytes4 s.ring.first ++ bytes4 s.ring.past ++ bytes4 s.ring.write
          ++ bytes4 s.ring.consumed ++ [s.ring.sequence, BitVec.ofNat 8 s.ring.backlog.length]))
    ∧ (s.faultRecord = none → exec .readFault s = .next (s.replied f 0 .ok [0, 0, 0, 0, 0, 0]))
    ∧ (∀ r : FaultRecord, s.faultRecord = some r → exec .readFault s = .next (s.replied f 0 .ok
        ([1] ++ bytes4 r.addr ++ [if r.kind = EntryKind.chunk then 1 else if r.kind = EntryKind.trailer then 2 else 3])))
    ∧ exec .clearFault s = .next ({ s with faultRecord := none }.replied f 0 .ok [])

/-- R23, R22: WRITE-PROFILE by the first condition that applies: BUSY on a window that is not OFF, BADARG for an identifier above
13 or a refused value, CLAMPED to the nearer end of the range, OK otherwise; the stored value is returned and no other field
changes. READ-PROFILE returns the stored value in every state, or BADARG and 0. -/
def Obligations.ProfileCommands : Prop :=
  ∀ (s : State) (f : Frame) (window id : Byte) (v : BitVec 32) (w : Fin 8), s.Listening f → window.toNat = w.val →
    (s.windows[w].state ≠ .off → exec (.writeProfile window id v) s
        = .next (s.replied f 6 .busy (bytes4 (((s.profile w).field id.toNat).getD 0))))
    ∧ (s.windows[w].state = .off → 13 < id.toNat →
        exec (.writeProfile window id v) s = .next (s.replied f 6 .badArg (bytes4 0)))
    ∧ (s.windows[w].state = .off →
        ((id = 0 ∧ v.toNat % 4 ≠ 0) ∨ (id = 1 ∧ 5 < v.toNat) ∨ (id = 3 ∧ 2 < v.toNat) ∨ (id = 5 ∧ 15 < v.toNat)) →
        exec (.writeProfile window id v) s
          = .next (s.replied f 6 .badArg (bytes4 (((s.profile w).field id.toNat).getD 0))))
    ∧ (s.windows[w].state = .off →
        ((id = 0 ∧ v.toNat % 4 = 0) ∨ (id = 1 ∧ v.toNat ≤ 5) ∨ (id = 3 ∧ v.toNat ≤ 2) ∨ id = 4 ∨ (id = 5 ∧ v.toNat ≤ 15)) →
        ∃ p : Profile, exec (.writeProfile window id v) s
            = .next ((s.setWindow w { s.windows[w] with profile := p }).replied f 6 .ok (bytes4 v))
          ∧ p.field id.toNat = some v ∧ ∀ j, j ≠ id.toNat → p.field j = (s.profile w).field j)
    ∧ (∀ lo hi : Nat, s.windows[w].state = .off →
        (id, lo, hi) ∈ ([(2, 1, 4096), (6, 1, 15), (7, 1, 63), (8, 1, 4), (9, 1, 7), (10, 0, 24), (11, 1, 3), (12, 0, 255),
          (13, 0, 65535)] : List (Byte × Nat × Nat)) →
        let x := if v.toNat < lo then lo else if hi < v.toNat then hi else v.toNat
        ∃ p : Profile, exec (.writeProfile window id v) s
            = .next ((s.setWindow w { s.windows[w] with profile := p }).replied f 6
                (if v.toNat < lo ∨ hi < v.toNat then .clamped else .ok) (bytes4 (BitVec.ofNat 32 x)))
          ∧ p.field id.toNat = some (BitVec.ofNat 32 x) ∧ ∀ j, j ≠ id.toNat → p.field j = (s.profile w).field j)
    ∧ (13 < id.toNat → exec (.readProfile window id) s = .next (s.replied f 2 .badArg (bytes4 0)))
    ∧ (∀ x, (s.profile w).field id.toNat = some x → exec (.readProfile window id) s = .next (s.replied f 2 .ok (bytes4 x)))

/-- R27: OPEN-WINDOW is refused with BUSY on a window that is not OFF, with BADARG when the span passes the top of the address
space, P is below M, or the span shares a byte with another open window or the ring region; otherwise the window becomes
ACTIVE with a clear settle map, its counters 0, its override records discarded. No write is stalled and no read held here. -/
def Obligations.OpenWindowTests : Prop :=
  ∀ (s : State) (f : Frame) (window : Byte) (w : Fin 8), s.Listening f → window.toNat = w.val →
    let p := s.profile w
    let top := p.base.toNat + p.span
    let refused := 0x100000000 < top ∨ p.passLimit < p.minPasses
      ∨ (∃ v : Fin 8, v ≠ w ∧ s.windows[v].state ≠ .off
          ∧ ShareByte p.base.toNat top (s.profile v).base.toNat ((s.profile v).base.toNat + (s.profile v).span))
      ∨ ShareByte p.base.toNat top s.ring.first.toNat s.ring.past.toNat
    (s.windows[w].state ≠ .off → exec (.openWindow window) s = .next (s.replied f 1 .busy []))
    ∧ (s.windows[w].state = .off → refused → exec (.openWindow window) s = .next (s.replied f 1 .badArg []))
    ∧ (s.windows[w].state = .off → ¬ refused → s.Still → (∀ k : Fin 4, s.holds[k] = none) →
        exec (.openWindow window) s = .next ({ s with
          windows := s.windows.set w { s.windows[w] with state := .active, settled := [], counters := Counters.zero }
          through := s.through.map (fun t : Through => match t.record with
            | some r => if r.uid.window = w then { t with record := none } else t
            | none => t) }.replied f 1 .ok []))

/-- R28, R31, R29: CLOSE-WINDOW is BUSY on an OFF window and has no effect on a CLOSING one. An ACTIVE window with a pass under way
becomes CLOSING; one with nothing under way becomes OFF at once with CLOSED set; the OPEN context of a pass-quiet one is
given UNSETTLED, its posting waiting here behind a full queue. -/
def Obligations.CloseWindowStartsTheDrain : Prop :=
  ∀ (s : State) (f : Frame) (window : Byte) (w : Fin 8), s.Listening f → window.toNat = w.val →
    (s.windows[w].state = .off → exec (.closeWindow window) s = .next (s.replied f 1 .busy []))
    ∧ (s.windows[w].state = .closing → exec (.closeWindow window) s = .next (s.replied f 1 .ok []))
    ∧ (s.windows[w].state = .active → s.Still → s.passQuiet w = false →
        exec (.closeWindow window) s
          = .next ((s.setWindow w { s.windows[w] with state := .closing }).replied f 1 .ok []))
    ∧ (s.windows[w].state = .active → s.Still → s.passQuiet w = true → s.windowContexts w = [] →
        (∀ k : Fin 4, s.lanes[k].runsLate w = false) →
        exec (.closeWindow window) s = .next ({ s.setWindow w { s.windows[w] with state := .off } with
          flags := s.flags ||| 0x080 }.replied f 1 .ok []))
    ∧ (∀ i c, s.windows[w].state = .active → s.Still → s.passQuiet w = true → s.windowContexts w = [i] →
        s.contexts[i] = some c → c.state = .opened → s.postings = [] → s.queue.length = 16 →
        exec (.closeWindow window) s = .next ({ s with
          windows := s.windows.set w { s.windows[w] with
            state := .closing
            settled := insertAsc c.uid.unit s.windows[w].settled
            counters := { s.windows[w].counters with unsettled := satInc s.windows[w].counters.unsettled } }
          contexts := s.contexts.set i (some { c with state := .draining, posting := true })
          flags := s.flags ||| 0x002
          postings := [⟨.drain i, some c.uid, [.trailer, .notice]⟩] }.replied f 1 .ok []))

/-- R32, R33, R57: ABANDON-WINDOW ends the window's passes, fold, repair, postings and contexts, frees the buffers of its
filling, staged and folding passes, stops their idle timers, removes its late runs, its entries and override records, clears
its settle map and makes it OFF, counting and flagging nothing. Every other buffer, timer, late run, staged pass, entry and
record stands. Nothing of another window waits in this state that the abandon would let go on. -/
def Obligations.AbandonWindowEndsItsWork : Prop :=
  ∀ (s : State) (f : Frame) (window : Byte) (w : Fin 8), s.Listening f → window.toNat = w.val →
    (∀ a ∈ s.active, a.waiting = []) → (∀ v : Fin 8, v ≠ w → s.windows[v].state ≠ .closing) →
    (∀ x ∈ s.postings, x.owner.map UnitId.window = some w) → s.ring.backlog = [] →
    (∀ i ∈ s.repairQueue, holdsWindow w s.contexts[i] = true) → (∀ k : Fin 4, s.holds[k] = none) → s.testDue = false →
    ((∀ p ∈ s.foldQueue, p.uid.window = w) ∨ ∃ r, s.fold = some r ∧ r.pass.uid.window ≠ w) →
    let ended : Fin 4 → Fin 2 → Prop := fun k b =>
      (∃ g, s.lanes[k].filling = some g ∧ g.uid.window = w ∧ g.buffer = b)
      ∨ (∃ p ∈ s.foldQueue, p.uid.window = w ∧ p.lane = k ∧ p.buffer = b)
      ∨ ∃ r, s.fold = some r ∧ r.pass.uid.window = w ∧ r.pass.lane = k ∧ r.pass.buffer = b
    ∃ t, exec (.abandonWindow window) s = .next t
      ∧ t.windows = s.windows.set w { s.windows[w] with state := .off, settled := [] }
      ∧ (∀ (k : Fin 4) (b : Fin 2), (ended k b → t.lanes[k].buffer b = .free)
        ∧ (¬ ended k b → t.lanes[k].buffer b = s.lanes[k].buffer b))
      ∧ (∀ k : Fin 4,
        (s.lanes[k].fills w = true → t.lanes[k].filling = none ∧ t.lanes[k].timer = none)
        ∧ (s.lanes[k].fills w = false → t.lanes[k].filling = s.lanes[k].filling ∧ t.lanes[k].timer = s.lanes[k].timer)
        ∧ t.lanes[k].lateRun = if s.lanes[k].runsLate w then none else s.lanes[k].lateRun)
      ∧ t.foldQueue = s.foldQueue.filter (fun p => p.uid.window != w)
      ∧ ((∀ r, s.fold = some r → r.pass.uid.window ≠ w) → t.fold = s.fold)
      ∧ (∀ r, s.fold = some r → r.pass.uid.window = w → t.fold = none)
      ∧ t.repairQueue = []
      ∧ ((∀ r, s.repair = some r → r.uid.window ≠ w) → t.repair = s.repair)
      ∧ (∀ r, s.repair = some r → r.uid.window = w → t.repair = none)
      ∧ t.postings = []
      ∧ (∀ i : Fin 32, t.contexts[i] = if holdsWindow w s.contexts[i] then none else s.contexts[i])
      ∧ t.freeList = s.freeList ++ (s.windowContexts w).flatMap (fun i => slotGranules s.contexts[i])
      ∧ t.queue = s.queue.filter (fun e => e.owner.map UnitId.window != some w)
      ∧ t.runCount = (if t.queue = [] then 0 else s.runCount)
      ∧ t.through = s.through.map (fun x : Through => match x.record with
          | some r => if r.uid.window = w then { x with record := none } else x
          | none => x)
      ∧ t.flags = s.flags ∧ t.ring = s.ring ∧ t.active = s.active ∧ t.votes = s.votes ∧ t.holds = s.holds
      ∧ t.issued = s.issued ∧ t.responses = s.responses ∧ t.faultRecord = s.faultRecord ∧ t.enables = s.enables
      ∧ t.frame = some (f.answered ⟨1, .ok, []⟩) ∧ t.lastRefused = false ∧ t.pending = s.pending

/-- R39, R38: READ-COUNTERS returns the eleven counters in the order of R38, two bytes each, least significant first;
CLEAR-COUNTERS sets them to 0; both in every window state. -/
def Obligations.CounterCommands : Prop :=
  ∀ (s : State) (f : Frame) (window : Byte) (w : Fin 8), s.Listening f → window.toNat = w.val →
    let c := s.windows[w].counters
    exec (.readCounters window) s = .next (s.replied f 1 .ok
      ([c.passesFolded, c.passesTorn, c.passesLate, c.denials, c.good, c.repaired, c.agreed, c.exhausted, c.unsettled,
        c.overrides, c.staleReads].flatMap (fun n => [BitVec.ofNat 8 n, BitVec.ofNat 8 (n / 256)])))
    ∧ exec (.clearCounters window) s = .next ((s.setWindow w { s.windows[w] with
        counters := ⟨0, 0, 0, 0, 0, 0, 0, 0, 0, 0, 0⟩ }).replied f 1 .ok [])

/-- R78, R61, R37: QUERY-UNIT reports the unit's condition with its context's values, or SETTLED or FRESH with zeros; REOPEN-UNIT
clears the settle-map entry of a unit without a context, and is BUSY with one; a unit index not below the unit count is
refused with BADARG by both. -/
def Obligations.UnitCommands : Prop :=
  ∀ (s : State) (f : Frame) (window : Byte) (unit : BitVec 16) (w : Fin 8), s.Listening f → window.toNat = w.val →
    let u : UnitId := ⟨w, unit.toNat⟩
    ((s.profile w).unitCount ≤ unit.toNat →
      exec (.queryUnit window unit) s = .next (s.replied f 3 .badArg [])
      ∧ exec (.reopenUnit window unit) s = .next (s.replied f 3 .badArg []))
    ∧ (unit.toNat < (s.profile w).unitCount → s.findContext u = none →
      exec (.queryUnit window unit) s = .next (s.replied f 3 .ok
        [if s.isSettled u then 1 else 0, 0, 0, 0, 0, 0, 0, 0, 0, 0xFF, 0xFF, 0xFF, 0xFF, 0xFF, 0xFF])
      ∧ exec (.reopenUnit window unit) s = .next ((s.setWindow w { s.windows[w] with
          settled := removeAsc unit.toNat s.windows[w].settled }).replied f 3 .ok []))
    ∧ (∀ i c, unit.toNat < (s.profile w).unitCount → s.findContext u = some i → s.contexts[i] = some c →
      exec (.queryUnit window unit) s = .next (s.replied f 3 .ok
        ([BitVec.ofNat 8 c.state.code, BitVec.ofNat 8 c.passes, BitVec.ofNat 8 c.clean, BitVec.ofNat 8 c.weak,
          BitVec.ofNat 8 (c.weak / 256), BitVec.ofNat 8 c.lastRepair.code, BitVec.ofNat 8 c.outstanding,
          BitVec.ofNat 8 c.granules.length, BitVec.ofNat 8 c.flips.length] ++ flipPlaces c.flips))
      ∧ exec (.reopenUnit window unit) s = .next (s.replied f 3 .busy []))

/-- R157, R158, R159: SET-RING, RING-ENABLE and RING-DISABLE: each refusal, and each effect. No notice waits for queue room at the
RING-DISABLE here. -/
def Obligations.RingSetup : Prop :=
  ∀ (s : State) (f : Frame) (first past : Addr), s.Listening f →
    let refused := first.toNat % 16 ≠ 0 ∨ past.toNat % 16 ≠ 0 ∨ past.toNat < first.toNat + 32
      ∨ ∃ w : Fin 8, s.windows[w].state ≠ .off
          ∧ ShareByte (s.profile w).base.toNat ((s.profile w).base.toNat + (s.profile w).span) first.toNat past.toNat
    (s.ring.enabled = true → exec (.setRing first past) s = .next (s.replied f 8 .busy [])
      ∧ exec .ringEnable s = .next (s.replied f 0 .busy []))
    ∧ (s.ring.enabled = false → refused → exec (.setRing first past) s = .next (s.replied f 8 .badArg []))
    ∧ (s.ring.enabled = false → ¬ refused → exec (.setRing first past) s
        = .next ({ s with ring := { s.ring with first := first, past := past } }.replied f 8 .ok []))
    ∧ (s.ring.enabled = false → s.ring.past.toNat < s.ring.first.toNat + 32 →
        exec .ringEnable s = .next (s.replied f 0 .badArg []))
    ∧ (s.ring.enabled = false → s.ring.first.toNat + 32 ≤ s.ring.past.toNat →
        exec .ringEnable s = .next ({ s with ring := { s.ring with
          enabled := true, write := s.ring.first, consumed := s.ring.first, sequence := 0 } }.replied f 0 .ok []))
    ∧ (s.ring.enabled = false → exec .ringDisable s = .next (s.replied f 0 .ok []))
    ∧ (s.ring.enabled = true → s.Still → (∀ x ∈ s.postings, x.poster = .backlog) →
        exec .ringDisable s = .next ({ s with
          ring := { s.ring with enabled := false, backlog := [] }, postings := [] }.replied f 0 .ok []))

/-- R163: RING-CONSUMED by the first condition that applies: BUSY with the ring disabled; BADARG for a pointer that is no multiple
of 16 or lies outside the ring; CLAMPED to the write pointer when the pointer lies farther along the ring; OK otherwise.
The stored pointer is returned. With the backlog empty nothing else changes. A full ring that gets room takes the backlog's
head at once (R162), placed as R161 says; behind a full queue the notice waits as the backlog posting. -/
def Obligations.RingConsumedMovesThePointer : Prop :=
  ∀ (s : State) (f : Frame) (p : Addr), s.Listening f →
    let along : Addr → Nat := fun b => if s.ring.consumed.toNat ≤ b.toNat then b.toNat - s.ring.consumed.toNat
      else b.toNat + (s.ring.past.toNat - s.ring.first.toNat) - s.ring.consumed.toNat
    let wrong := p.toNat % 16 ≠ 0 ∨ p.toNat < s.ring.first.toNat ∨ s.ring.past.toNat ≤ p.toNat
    (s.ring.enabled = false → exec (.ringConsumed p) s = .next (s.replied f 4 .busy (bytes4 s.ring.consumed)))
    ∧ (s.ring.enabled = true → wrong → exec (.ringConsumed p) s = .next (s.replied f 4 .badArg (bytes4 s.ring.consumed)))
    ∧ (s.ring.enabled = true → ¬ wrong → along s.ring.write < along p → s.Still → s.postings = [] → s.ring.backlog = [] →
        exec (.ringConsumed p) s = .next ({ s with ring := { s.ring with consumed := s.ring.write } }.replied f 4 .clamped
          (bytes4 s.ring.write)))
    ∧ (s.ring.enabled = true → ¬ wrong → along p ≤ along s.ring.write → s.Still → s.postings = [] → s.ring.backlog = [] →
        exec (.ringConsumed p) s = .next ({ s with ring := { s.ring with consumed := p } }.replied f 4 .ok (bytes4 p)))
    ∧ ∀ (n : Notice) (more : List Notice), s.ring.enabled = true → ¬ wrong → along p ≤ along s.ring.write →
        p ≠ s.ring.consumed → s.ring.full = true → s.Still → s.postings = [] → s.ring.backlog = n :: more →
        (s.queue.length < 16 → (more = [] ∨ p = s.ring.advance s.ring.consumed) →
          let placed : State := { s with
            ring := { s.ring with
              consumed := p, write := s.ring.advance s.ring.write, sequence := s.ring.sequence + 1, backlog := more }
            queue := s.queue ++ [⟨.ring, s.ring.write, quadsOfBytes (n.bytes s.ring.sequence), none, false⟩]
            flags := s.flags ||| 0x100 }
          exec (.ringConsumed p) s = .next (placed.replied f 4 .ok (bytes4 p)))
        ∧ (16 ≤ s.queue.length →
          let waiting : State :=
            { s with ring := { s.ring with consumed := p }, postings := [⟨.backlog, none, [.notice]⟩] }
          exec (.ringConsumed p) s = .next (waiting.replied f 4 .ok (bytes4 p)))

/-- R170, R173, R174: without an open frame, and after a command has taken effect in its frame, no maintenance command has any
effect; a window number above 7 is refused with BADWIN before any other check, an unknown code with BADCMD, and nothing else
changes. R175: the code and the argument bytes of each command spell it, low byte first, and no fewer of them spell any. -/
def Obligations.OneCommandPerFrame : Prop :=
  (∀ (c : Instr) (s : State), isMaintenance c = true →
    (s.frame = none ∨ ∃ f r, s.frame = some f ∧ f.reply = some r) → exec c s = .next s)
  ∧ (∀ (s : State) (f : Frame) (window id : Byte) (v : BitVec 32) (unit : BitVec 16), s.Listening f → 8 ≤ window.toNat →
      exec (.writeProfile window id v) s = .next (s.replied f 6 .badWin [])
      ∧ exec (.readProfile window id) s = .next (s.replied f 2 .badWin [])
      ∧ exec (.openWindow window) s = .next (s.replied f 1 .badWin [])
      ∧ exec (.closeWindow window) s = .next (s.replied f 1 .badWin [])
      ∧ exec (.abandonWindow window) s = .next (s.replied f 1 .badWin [])
      ∧ exec (.readCounters window) s = .next (s.replied f 1 .badWin [])
      ∧ exec (.clearCounters window) s = .next (s.replied f 1 .badWin [])
      ∧ exec (.queryUnit window unit) s = .next (s.replied f 3 .badWin [])
      ∧ exec (.reopenUnit window unit) s = .next (s.replied f 3 .badWin []))
  ∧ (∀ (s : State) (f : Frame) (code : Byte), s.Listening f → codeUnknown code = true →
      exec (.badcmd code) s = .next (s.replied f 0 .badCmd []))
  ∧ ∀ c : Instr, isMaintenance c = true →
      decodeFrame c.frameBytes = some c ∧ ∀ n, n < c.frameBytes.length → decodeFrame (c.frameBytes.take n) = none

/-- R171, R173, R180: a falling edge of MSEL in a ready part opens a frame with the summary status byte captured, bit by bit; a
rising edge ends the frame; an edge to the level MSEL has already is no edge (log 1). R169, R170: on an empty queue a step deals
with the edge of MCLK that has come first (log 7: the model's choice). A rising edge samples MDI, most significant bit
first; the eighth completes a byte in, and the byte that completes a command brings its effect. A falling edge presents
the next bit of the bytes out (the first in a frame too, log 19: the model's choice when MCLK rests high): the status byte, 0x00 for each argument byte, the result code, the data, then 0x00. Without
an open frame an edge is ignored, and after the command so is MDI. -/
def Obligations.FrameEdges : Prop :=
  (∀ s : State, s.run = .ready → s.mselLow = false →
    ∃ status : Byte, exec .frameOpen s = .next { s with mselLow := true, frame := some ⟨status, none, false, [], [], 0⟩ }
      ∧ status.getLsbD 7 = s.attnLow
      ∧ (status.getLsbD 6 = true ↔ ∃ w : Fin 8, s.windows[w].state = .closing)
      ∧ (status.getLsbD 5 = true ↔ 12 ≤ s.queue.length)
      ∧ status.getLsbD 4 = s.repair.isSome
      ∧ (status.getLsbD 3 = true ↔ s.ring.backlog ≠ [])
      ∧ status.getLsbD 2 = s.faultRecord.isSome
      ∧ status.getLsbD 1 = s.lastRefused
      ∧ status.getLsbD 0 = s.resetSince)
  ∧ (∀ s : State, s.mselLow = true → (∀ f, s.frame = some f → f.coreReset = false) →
      exec .frameEnd s = .next { s with mselLow := false, frame := none })
  ∧ (∀ s : State, s.mselLow = true → exec .frameOpen s = .next s)
  ∧ (∀ s : State, s.mselLow = false → exec .frameEnd s = .next s)
  ∧ (∀ (s : State) (e : MclkEdge) (rest : List MclkEdge), s.pending = [] → s.mclk = e :: rest → s.frame = none →
      step s = .next { s with mclk := rest })
  ∧ (∀ (s : State) (f : Frame) (mdi : Bool) (rest : List MclkEdge), s.pending = [] → s.mclk = .rise mdi :: rest →
      s.frame = some f →
      (f.reply ≠ none → step s = .next { s with mclk := rest })
      ∧ (f.reply = none → f.shift.length < 7 →
          step s = .next { s with mclk := rest, frame := some { f with shift := f.shift ++ [mdi] } })
      ∧ ∀ b7 b6 b5 b4 b3 b2 b1 : Bool, f.reply = none → f.shift = [b7, b6, b5, b4, b3, b2, b1] →
          ∃ byte : Byte, (List.range 8).map (fun i => byte.getLsbD (7 - i)) = [b7, b6, b5, b4, b3, b2, b1, mdi]
            ∧ let t := { s with mclk := rest, frame := some { f with shift := [], received := f.received ++ [byte] } }
              step s = match decodeFrame (f.received ++ [byte]) with
                | some c => exec c t
                | none => .next t)
  ∧ (∀ (s : State) (f : Frame) (rest : List MclkEdge), s.pending = [] → s.mclk = .fall :: rest → s.frame = some f →
      step s = .next { s with mclk := rest, frame := some { f with bitsOut := f.bitsOut + 1 } })
  ∧ ∀ s : State, (s.frame = none → s.mdo = none) ∧ ∀ f, s.frame = some f →
      s.mdo = some ((f.outByte (f.bitsOut / 8)).getLsbD (7 - f.bitsOut % 8)) ∧ f.outByte 0 = f.status
      ∧ ∀ (i : Nat) (r : Reply), f.reply = some r → (1 ≤ i → i ≤ r.args → f.outByte i = 0)
        ∧ f.outByte (r.args + 1) = BitVec.ofNat 8 r.result.code ∧ f.outByte (r.args + 2 + i) = r.data.getD i 0

/-- R178, R21: CORE-RESET answers OK and arms the core reset; the rising edge of MSEL makes it: every block at its reset values,
cause CORE, the through order kept without override records, what has been issued and the responses standing. The waiting beats
of each stalled write lie outside then and are forwarded as one piece: it joins the through order, the write taken first
first, and the write waits for its answer. -/
def Obligations.CoreResetAtTheEndOfItsFrame : Prop :=
  (∀ (s : State) (f : Frame), s.Listening f →
    exec .coreReset s = .next ({ s with frame := none }.replied { f with coreReset := true } 0 .ok []))
  ∧ (∀ (s : State) (f : Frame), s.mselLow = true → s.frame = some f → f.coreReset = true →
      (∀ a ∈ s.active, a.waiting = []) →
      exec .frameEnd s = .next { State.reset with
        run := s.run, refdiv := s.refdiv, resetCause := .core, mclk := s.mclk, pending := s.pending, votes := s.votes
        active := s.active, issued := s.issued, responses := s.responses
        through := s.through.map (fun t : Through => { t with record := none }) })
  ∧ ∀ (s : State) (f : Frame), s.mselLow = true → s.frame = some f → f.coreReset = true → s.OneRequestEach →
      exec .frameEnd s = .next { State.reset with
        run := s.run, refdiv := s.refdiv, resetCause := .core, mclk := s.mclk, pending := s.pending, votes := s.votes
        issued := s.issued, responses := s.responses
        through := s.through.map (fun t : Through => { t with record := none })
          ++ s.active.filterMap (fun a : Active => match a.waiting with
            | [] => none
            | b :: more => some ⟨a.initiator, b.addr, .write ((b :: more).map WaitingBeat.beat), none⟩)
        active := s.active.map (fun a : Active =>
          if a.waiting = [] then a else { a with waiting := [], inFlight := a.inFlight + 1, stalled := false }) }

/-! ### Invariants -/

/-- R22, R23: every step keeps every window's profile in its ranges. -/
def Obligations.ProfilesStayLegal : Prop :=
  ∀ s t : State, s.ProfilesLegal → step s = .next t → t.ProfilesLegal

/-- R128, R155, R138: every step keeps the write-back queue within 16 entries, the backlog within 8 notices, the run count
within 8. -/
def Obligations.QueuesStayBounded : Prop :=
  ∀ s t : State, s.QueuesBounded → step s = .next t → t.QueuesBounded

/-- R69, R60, R3: every step keeps each granule in the free list exactly once or in exactly one context's list exactly once,
keeps the contexts' units distinct, and keeps each initiator at one unanswered request. R62, R80, R104, R107: every step keeps
the engines' records, their postings, the repair queue and the contexts in agreement, which gives what every command needs to
complete. -/
def Obligations.GranulesStayAccounted : Prop :=
  (∀ s t : State, s.GranulesAccounted → step s = .next t → t.GranulesAccounted)
  ∧ (∀ s t : State, s.UnitsDistinct → step s = .next t → t.UnitsDistinct)
  ∧ (∀ s t : State, s.OneRequestEach → step s = .next t → t.OneRequestEach)
  ∧ (∀ s t : State, s.EnginesAgree → step s = .next t → t.EnginesAgree)
  ∧ ∀ s : State, s.EnginesAgree → s.RecordsHeld

/-- R68: every step keeps every tally within -7 to +7 and the sparse vote store in its one canonical form. -/
def Obligations.VotesStayCanonical : Prop :=
  ∀ s t : State, s.VotesGood → step s = .next t → t.VotesGood

/-- The invariants hold right after reset, where nothing is due. -/
def Obligations.InvariantsHoldAtReset : Prop :=
  State.reset.ProfilesLegal ∧ State.reset.QueuesBounded ∧ State.reset.GranulesAccounted ∧ State.reset.UnitsDistinct
  ∧ State.reset.OneRequestEach ∧ State.reset.VotesGood ∧ State.reset.EnginesAgree ∧ State.reset.RecordsHeld
  ∧ State.reset.Still
end

