-- ==== Sys2Proof/Laws/State.lean ====
section
/-! SUPPORT. One lemma per field per plain update of the state, true by unfolding. -/

namespace Sys2Proof.Machine

variable (s : State)

/-! ### `State.setWindow` -/

@[simp] theorem State.setWindow_run (w : Fin 8) (x : Window) :
    (s.setWindow w x).run = s.run := rfl
@[simp] theorem State.setWindow_refdiv (w : Fin 8) (x : Window) :
    (s.setWindow w x).refdiv = s.refdiv := rfl
@[simp] theorem State.setWindow_windows (w : Fin 8) (x : Window) :
    (s.setWindow w x).windows = s.windows.set w x := rfl
@[simp] theorem State.setWindow_active (w : Fin 8) (x : Window) :
    (s.setWindow w x).active = s.active := rfl
@[simp] theorem State.setWindow_through (w : Fin 8) (x : Window) :
    (s.setWindow w x).through = s.through := rfl
@[simp] theorem State.setWindow_issued (w : Fin 8) (x : Window) :
    (s.setWindow w x).issued = s.issued := rfl
@[simp] theorem State.setWindow_responses (w : Fin 8) (x : Window) :
    (s.setWindow w x).responses = s.responses := rfl
@[simp] theorem State.setWindow_lanes (w : Fin 8) (x : Window) :
    (s.setWindow w x).lanes = s.lanes := rfl
@[simp] theorem State.setWindow_foldQueue (w : Fin 8) (x : Window) :
    (s.setWindow w x).foldQueue = s.foldQueue := rfl
@[simp] theorem State.setWindow_contexts (w : Fin 8) (x : Window) :
    (s.setWindow w x).contexts = s.contexts := rfl
@[simp] theorem State.setWindow_freeList (w : Fin 8) (x : Window) :
    (s.setWindow w x).freeList = s.freeList := rfl
@[simp] theorem State.setWindow_votes (w : Fin 8) (x : Window) :
    (s.setWindow w x).votes = s.votes := rfl
@[simp] theorem State.setWindow_fold (w : Fin 8) (x : Window) :
    (s.setWindow w x).fold = s.fold := rfl
@[simp] theorem State.setWindow_repairQueue (w : Fin 8) (x : Window) :
    (s.setWindow w x).repairQueue = s.repairQueue := rfl
@[simp] theorem State.setWindow_repair (w : Fin 8) (x : Window) :
    (s.setWindow w x).repair = s.repair := rfl
@[simp] theorem State.setWindow_queue (w : Fin 8) (x : Window) :
    (s.setWindow w x).queue = s.queue := rfl
@[simp] theorem State.setWindow_postings (w : Fin 8) (x : Window) :
    (s.setWindow w x).postings = s.postings := rfl
@[simp] theorem State.setWindow_runCount (w : Fin 8) (x : Window) :
    (s.setWindow w x).runCount = s.runCount := rfl
@[simp] theorem State.setWindow_faultRecord (w : Fin 8) (x : Window) :
    (s.setWindow w x).faultRecord = s.faultRecord := rfl
@[simp] theorem State.setWindow_holds (w : Fin 8) (x : Window) :
    (s.setWindow w x).holds = s.holds := rfl
@[simp] theorem State.setWindow_testDue (w : Fin 8) (x : Window) :
    (s.setWindow w x).testDue = s.testDue := rfl
@[simp] theorem State.setWindow_ring (w : Fin 8) (x : Window) :
    (s.setWindow w x).ring = s.ring := rfl
@[simp] theorem State.setWindow_flags (w : Fin 8) (x : Window) :
    (s.setWindow w x).flags = s.flags := rfl
@[simp] theorem State.setWindow_enables (w : Fin 8) (x : Window) :
    (s.setWindow w x).enables = s.enables := rfl
@[simp] theorem State.setWindow_mselLow (w : Fin 8) (x : Window) :
    (s.setWindow w x).mselLow = s.mselLow := rfl
@[simp] theorem State.setWindow_frame (w : Fin 8) (x : Window) :
    (s.setWindow w x).frame = s.frame := rfl
@[simp] theorem State.setWindow_lastRefused (w : Fin 8) (x : Window) :
    (s.setWindow w x).lastRefused = s.lastRefused := rfl
@[simp] theorem State.setWindow_resetSince (w : Fin 8) (x : Window) :
    (s.setWindow w x).resetSince = s.resetSince := rfl
@[simp] theorem State.setWindow_resetCause (w : Fin 8) (x : Window) :
    (s.setWindow w x).resetCause = s.resetCause := rfl
@[simp] theorem State.setWindow_mclk (w : Fin 8) (x : Window) :
    (s.setWindow w x).mclk = s.mclk := rfl
@[simp] theorem State.setWindow_pending (w : Fin 8) (x : Window) :
    (s.setWindow w x).pending = s.pending := rfl

/-! ### `State.setLane` -/

@[simp] theorem State.setLane_run (k : Fin 4) (x : Lane) :
    (s.setLane k x).run = s.run := rfl
@[simp] theorem State.setLane_refdiv (k : Fin 4) (x : Lane) :
    (s.setLane k x).refdiv = s.refdiv := rfl
@[simp] theorem State.setLane_windows (k : Fin 4) (x : Lane) :
    (s.setLane k x).windows = s.windows := rfl
@[simp] theorem State.setLane_active (k : Fin 4) (x : Lane) :
    (s.setLane k x).active = s.active := rfl
@[simp] theorem State.setLane_through (k : Fin 4) (x : Lane) :
    (s.setLane k x).through = s.through := rfl
@[simp] theorem State.setLane_issued (k : Fin 4) (x : Lane) :
    (s.setLane k x).issued = s.issued := rfl
@[simp] theorem State.setLane_responses (k : Fin 4) (x : Lane) :
    (s.setLane k x).responses = s.responses := rfl
@[simp] theorem State.setLane_lanes (k : Fin 4) (x : Lane) :
    (s.setLane k x).lanes = s.lanes.set k x := rfl
@[simp] theorem State.setLane_foldQueue (k : Fin 4) (x : Lane) :
    (s.setLane k x).foldQueue = s.foldQueue := rfl
@[simp] theorem State.setLane_contexts (k : Fin 4) (x : Lane) :
    (s.setLane k x).contexts = s.contexts := rfl
@[simp] theorem State.setLane_freeList (k : Fin 4) (x : Lane) :
    (s.setLane k x).freeList = s.freeList := rfl
@[simp] theorem State.setLane_votes (k : Fin 4) (x : Lane) :
    (s.setLane k x).votes = s.votes := rfl
@[simp] theorem State.setLane_fold (k : Fin 4) (x : Lane) :
    (s.setLane k x).fold = s.fold := rfl
@[simp] theorem State.setLane_repairQueue (k : Fin 4) (x : Lane) :
    (s.setLane k x).repairQueue = s.repairQueue := rfl
@[simp] theorem State.setLane_repair (k : Fin 4) (x : Lane) :
    (s.setLane k x).repair = s.repair := rfl
@[simp] theorem State.setLane_queue (k : Fin 4) (x : Lane) :
    (s.setLane k x).queue = s.queue := rfl
@[simp] theorem State.setLane_postings (k : Fin 4) (x : Lane) :
    (s.setLane k x).postings = s.postings := rfl
@[simp] theorem State.setLane_runCount (k : Fin 4) (x : Lane) :
    (s.setLane k x).runCount = s.runCount := rfl
@[simp] theorem State.setLane_faultRecord (k : Fin 4) (x : Lane) :
    (s.setLane k x).faultRecord = s.faultRecord := rfl
@[simp] theorem State.setLane_holds (k : Fin 4) (x : Lane) :
    (s.setLane k x).holds = s.holds := rfl
@[simp] theorem State.setLane_testDue (k : Fin 4) (x : Lane) :
    (s.setLane k x).testDue = s.testDue := rfl
@[simp] theorem State.setLane_ring (k : Fin 4) (x : Lane) :
    (s.setLane k x).ring = s.ring := rfl
@[simp] theorem State.setLane_flags (k : Fin 4) (x : Lane) :
    (s.setLane k x).flags = s.flags := rfl
@[simp] theorem State.setLane_enables (k : Fin 4) (x : Lane) :
    (s.setLane k x).enables = s.enables := rfl
@[simp] theorem State.setLane_mselLow (k : Fin 4) (x : Lane) :
    (s.setLane k x).mselLow = s.mselLow := rfl
@[simp] theorem State.setLane_frame (k : Fin 4) (x : Lane) :
    (s.setLane k x).frame = s.frame := rfl
@[simp] theorem State.setLane_lastRefused (k : Fin 4) (x : Lane) :
    (s.setLane k x).lastRefused = s.lastRefused := rfl
@[simp] theorem State.setLane_resetSince (k : Fin 4) (x : Lane) :
    (s.setLane k x).resetSince = s.resetSince := rfl
@[simp] theorem State.setLane_resetCause (k : Fin 4) (x : Lane) :
    (s.setLane k x).resetCause = s.resetCause := rfl
@[simp] theorem State.setLane_mclk (k : Fin 4) (x : Lane) :
    (s.setLane k x).mclk = s.mclk := rfl
@[simp] theorem State.setLane_pending (k : Fin 4) (x : Lane) :
    (s.setLane k x).pending = s.pending := rfl

/-! ### `State.setContext` -/

@[simp] theorem State.setContext_run (i : Fin 32) (x : Option Context) :
    (s.setContext i x).run = s.run := rfl
@[simp] theorem State.setContext_refdiv (i : Fin 32) (x : Option Context) :
    (s.setContext i x).refdiv = s.refdiv := rfl
@[simp] theorem State.setContext_windows (i : Fin 32) (x : Option Context) :
    (s.setContext i x).windows = s.windows := rfl
@[simp] theorem State.setContext_active (i : Fin 32) (x : Option Context) :
    (s.setContext i x).active = s.active := rfl
@[simp] theorem State.setContext_through (i : Fin 32) (x : Option Context) :
    (s.setContext i x).through = s.through := rfl
@[simp] theorem State.setContext_issued (i : Fin 32) (x : Option Context) :
    (s.setContext i x).issued = s.issued := rfl
@[simp] theorem State.setContext_responses (i : Fin 32) (x : Option Context) :
    (s.setContext i x).responses = s.responses := rfl
@[simp] theorem State.setContext_lanes (i : Fin 32) (x : Option Context) :
    (s.setContext i x).lanes = s.lanes := rfl
@[simp] theorem State.setContext_foldQueue (i : Fin 32) (x : Option Context) :
    (s.setContext i x).foldQueue = s.foldQueue := rfl
@[simp] theorem State.setContext_contexts (i : Fin 32) (x : Option Context) :
    (s.setContext i x).contexts = s.contexts.set i x := rfl
@[simp] theorem State.setContext_freeList (i : Fin 32) (x : Option Context) :
    (s.setContext i x).freeList = s.freeList := rfl
@[simp] theorem State.setContext_votes (i : Fin 32) (x : Option Context) :
    (s.setContext i x).votes = s.votes := rfl
@[simp] theorem State.setContext_fold (i : Fin 32) (x : Option Context) :
    (s.setContext i x).fold = s.fold := rfl
@[simp] theorem State.setContext_repairQueue (i : Fin 32) (x : Option Context) :
    (s.setContext i x).repairQueue = s.repairQueue := rfl
@[simp] theorem State.setContext_repair (i : Fin 32) (x : Option Context) :
    (s.setContext i x).repair = s.repair := rfl
@[simp] theorem State.setContext_queue (i : Fin 32) (x : Option Context) :
    (s.setContext i x).queue = s.queue := rfl
@[simp] theorem State.setContext_postings (i : Fin 32) (x : Option Context) :
    (s.setContext i x).postings = s.postings := rfl
@[simp] theorem State.setContext_runCount (i : Fin 32) (x : Option Context) :
    (s.setContext i x).runCount = s.runCount := rfl
@[simp] theorem State.setContext_faultRecord (i : Fin 32) (x : Option Context) :
    (s.setContext i x).faultRecord = s.faultRecord := rfl
@[simp] theorem State.setContext_holds (i : Fin 32) (x : Option Context) :
    (s.setContext i x).holds = s.holds := rfl
@[simp] theorem State.setContext_testDue (i : Fin 32) (x : Option Context) :
    (s.setContext i x).testDue = s.testDue := rfl
@[simp] theorem State.setContext_ring (i : Fin 32) (x : Option Context) :
    (s.setContext i x).ring = s.ring := rfl
@[simp] theorem State.setContext_flags (i : Fin 32) (x : Option Context) :
    (s.setContext i x).flags = s.flags := rfl
@[simp] theorem State.setContext_enables (i : Fin 32) (x : Option Context) :
    (s.setContext i x).enables = s.enables := rfl
@[simp] theorem State.setContext_mselLow (i : Fin 32) (x : Option Context) :
    (s.setContext i x).mselLow = s.mselLow := rfl
@[simp] theorem State.setContext_frame (i : Fin 32) (x : Option Context) :
    (s.setContext i x).frame = s.frame := rfl
@[simp] theorem State.setContext_lastRefused (i : Fin 32) (x : Option Context) :
    (s.setContext i x).lastRefused = s.lastRefused := rfl
@[simp] theorem State.setContext_resetSince (i : Fin 32) (x : Option Context) :
    (s.setContext i x).resetSince = s.resetSince := rfl
@[simp] theorem State.setContext_resetCause (i : Fin 32) (x : Option Context) :
    (s.setContext i x).resetCause = s.resetCause := rfl
@[simp] theorem State.setContext_mclk (i : Fin 32) (x : Option Context) :
    (s.setContext i x).mclk = s.mclk := rfl
@[simp] theorem State.setContext_pending (i : Fin 32) (x : Option Context) :
    (s.setContext i x).pending = s.pending := rfl

/-! ### `State.setHold` -/

@[simp] theorem State.setHold_run (k : Fin 4) (x : Option HoldRecord) :
    (s.setHold k x).run = s.run := rfl
@[simp] theorem State.setHold_refdiv (k : Fin 4) (x : Option HoldRecord) :
    (s.setHold k x).refdiv = s.refdiv := rfl
@[simp] theorem State.setHold_windows (k : Fin 4) (x : Option HoldRecord) :
    (s.setHold k x).windows = s.windows := rfl
@[simp] theorem State.setHold_active (k : Fin 4) (x : Option HoldRecord) :
    (s.setHold k x).active = s.active := rfl
@[simp] theorem State.setHold_through (k : Fin 4) (x : Option HoldRecord) :
    (s.setHold k x).through = s.through := rfl
@[simp] theorem State.setHold_issued (k : Fin 4) (x : Option HoldRecord) :
    (s.setHold k x).issued = s.issued := rfl
@[simp] theorem State.setHold_responses (k : Fin 4) (x : Option HoldRecord) :
    (s.setHold k x).responses = s.responses := rfl
@[simp] theorem State.setHold_lanes (k : Fin 4) (x : Option HoldRecord) :
    (s.setHold k x).lanes = s.lanes := rfl
@[simp] theorem State.setHold_foldQueue (k : Fin 4) (x : Option HoldRecord) :
    (s.setHold k x).foldQueue = s.foldQueue := rfl
@[simp] theorem State.setHold_contexts (k : Fin 4) (x : Option HoldRecord) :
    (s.setHold k x).contexts = s.contexts := rfl
@[simp] theorem State.setHold_freeList (k : Fin 4) (x : Option HoldRecord) :
    (s.setHold k x).freeList = s.freeList := rfl
@[simp] theorem State.setHold_votes (k : Fin 4) (x : Option HoldRecord) :
    (s.setHold k x).votes = s.votes := rfl
@[simp] theorem State.setHold_fold (k : Fin 4) (x : Option HoldRecord) :
    (s.setHold k x).fold = s.fold := rfl
@[simp] theorem State.setHold_repairQueue (k : Fin 4) (x : Option HoldRecord) :
    (s.setHold k x).repairQueue = s.repairQueue := rfl
@[simp] theorem State.setHold_repair (k : Fin 4) (x : Option HoldRecord) :
    (s.setHold k x).repair = s.repair := rfl
@[simp] theorem State.setHold_queue (k : Fin 4) (x : Option HoldRecord) :
    (s.setHold k x).queue = s.queue := rfl
@[simp] theorem State.setHold_postings (k : Fin 4) (x : Option HoldRecord) :
    (s.setHold k x).postings = s.postings := rfl
@[simp] theorem State.setHold_runCount (k : Fin 4) (x : Option HoldRecord) :
    (s.setHold k x).runCount = s.runCount := rfl
@[simp] theorem State.setHold_faultRecord (k : Fin 4) (x : Option HoldRecord) :
    (s.setHold k x).faultRecord = s.faultRecord := rfl
@[simp] theorem State.setHold_holds (k : Fin 4) (x : Option HoldRecord) :
    (s.setHold k x).holds = s.holds.set k x := rfl
@[simp] theorem State.setHold_testDue (k : Fin 4) (x : Option HoldRecord) :
    (s.setHold k x).testDue = s.testDue := rfl
@[simp] theorem State.setHold_ring (k : Fin 4) (x : Option HoldRecord) :
    (s.setHold k x).ring = s.ring := rfl
@[simp] theorem State.setHold_flags (k : Fin 4) (x : Option HoldRecord) :
    (s.setHold k x).flags = s.flags := rfl
@[simp] theorem State.setHold_enables (k : Fin 4) (x : Option HoldRecord) :
    (s.setHold k x).enables = s.enables := rfl
@[simp] theorem State.setHold_mselLow (k : Fin 4) (x : Option HoldRecord) :
    (s.setHold k x).mselLow = s.mselLow := rfl
@[simp] theorem State.setHold_frame (k : Fin 4) (x : Option HoldRecord) :
    (s.setHold k x).frame = s.frame := rfl
@[simp] theorem State.setHold_lastRefused (k : Fin 4) (x : Option HoldRecord) :
    (s.setHold k x).lastRefused = s.lastRefused := rfl
@[simp] theorem State.setHold_resetSince (k : Fin 4) (x : Option HoldRecord) :
    (s.setHold k x).resetSince = s.resetSince := rfl
@[simp] theorem State.setHold_resetCause (k : Fin 4) (x : Option HoldRecord) :
    (s.setHold k x).resetCause = s.resetCause := rfl
@[simp] theorem State.setHold_mclk (k : Fin 4) (x : Option HoldRecord) :
    (s.setHold k x).mclk = s.mclk := rfl
@[simp] theorem State.setHold_pending (k : Fin 4) (x : Option HoldRecord) :
    (s.setHold k x).pending = s.pending := rfl

/-! ### `State.setFlag` -/

@[simp] theorem State.setFlag_run (f : Flag) :
    (s.setFlag f).run = s.run := rfl
@[simp] theorem State.setFlag_refdiv (f : Flag) :
    (s.setFlag f).refdiv = s.refdiv := rfl
@[simp] theorem State.setFlag_windows (f : Flag) :
    (s.setFlag f).windows = s.windows := rfl
@[simp] theorem State.setFlag_active (f : Flag) :
    (s.setFlag f).active = s.active := rfl
@[simp] theorem State.setFlag_through (f : Flag) :
    (s.setFlag f).through = s.through := rfl
@[simp] theorem State.setFlag_issued (f : Flag) :
    (s.setFlag f).issued = s.issued := rfl
@[simp] theorem State.setFlag_responses (f : Flag) :
    (s.setFlag f).responses = s.responses := rfl
@[simp] theorem State.setFlag_lanes (f : Flag) :
    (s.setFlag f).lanes = s.lanes := rfl
@[simp] theorem State.setFlag_foldQueue (f : Flag) :
    (s.setFlag f).foldQueue = s.foldQueue := rfl
@[simp] theorem State.setFlag_contexts (f : Flag) :
    (s.setFlag f).contexts = s.contexts := rfl
@[simp] theorem State.setFlag_freeList (f : Flag) :
    (s.setFlag f).freeList = s.freeList := rfl
@[simp] theorem State.setFlag_votes (f : Flag) :
    (s.setFlag f).votes = s.votes := rfl
@[simp] theorem State.setFlag_fold (f : Flag) :
    (s.setFlag f).fold = s.fold := rfl
@[simp] theorem State.setFlag_repairQueue (f : Flag) :
    (s.setFlag f).repairQueue = s.repairQueue := rfl
@[simp] theorem State.setFlag_repair (f : Flag) :
    (s.setFlag f).repair = s.repair := rfl
@[simp] theorem State.setFlag_queue (f : Flag) :
    (s.setFlag f).queue = s.queue := rfl
@[simp] theorem State.setFlag_postings (f : Flag) :
    (s.setFlag f).postings = s.postings := rfl
@[simp] theorem State.setFlag_runCount (f : Flag) :
    (s.setFlag f).runCount = s.runCount := rfl
@[simp] theorem State.setFlag_faultRecord (f : Flag) :
    (s.setFlag f).faultRecord = s.faultRecord := rfl
@[simp] theorem State.setFlag_holds (f : Flag) :
    (s.setFlag f).holds = s.holds := rfl
@[simp] theorem State.setFlag_testDue (f : Flag) :
    (s.setFlag f).testDue = s.testDue := rfl
@[simp] theorem State.setFlag_ring (f : Flag) :
    (s.setFlag f).ring = s.ring := rfl
@[simp] theorem State.setFlag_flags (f : Flag) :
    (s.setFlag f).flags = s.flags ||| f.mask := rfl
@[simp] theorem State.setFlag_enables (f : Flag) :
    (s.setFlag f).enables = s.enables := rfl
@[simp] theorem State.setFlag_mselLow (f : Flag) :
    (s.setFlag f).mselLow = s.mselLow := rfl
@[simp] theorem State.setFlag_frame (f : Flag) :
    (s.setFlag f).frame = s.frame := rfl
@[simp] theorem State.setFlag_lastRefused (f : Flag) :
    (s.setFlag f).lastRefused = s.lastRefused := rfl
@[simp] theorem State.setFlag_resetSince (f : Flag) :
    (s.setFlag f).resetSince = s.resetSince := rfl
@[simp] theorem State.setFlag_resetCause (f : Flag) :
    (s.setFlag f).resetCause = s.resetCause := rfl
@[simp] theorem State.setFlag_mclk (f : Flag) :
    (s.setFlag f).mclk = s.mclk := rfl
@[simp] theorem State.setFlag_pending (f : Flag) :
    (s.setFlag f).pending = s.pending := rfl

/-! ### `State.dueTest` -/

@[simp] theorem State.dueTest_run :
    (s.dueTest).run = s.run := rfl
@[simp] theorem State.dueTest_refdiv :
    (s.dueTest).refdiv = s.refdiv := rfl
@[simp] theorem State.dueTest_windows :
    (s.dueTest).windows = s.windows := rfl
@[simp] theorem State.dueTest_active :
    (s.dueTest).active = s.active := rfl
@[simp] theorem State.dueTest_through :
    (s.dueTest).through = s.through := rfl
@[simp] theorem State.dueTest_issued :
    (s.dueTest).issued = s.issued := rfl
@[simp] theorem State.dueTest_responses :
    (s.dueTest).responses = s.responses := rfl
@[simp] theorem State.dueTest_lanes :
    (s.dueTest).lanes = s.lanes := rfl
@[simp] theorem State.dueTest_foldQueue :
    (s.dueTest).foldQueue = s.foldQueue := rfl
@[simp] theorem State.dueTest_contexts :
    (s.dueTest).contexts = s.contexts := rfl
@[simp] theorem State.dueTest_freeList :
    (s.dueTest).freeList = s.freeList := rfl
@[simp] theorem State.dueTest_votes :
    (s.dueTest).votes = s.votes := rfl
@[simp] theorem State.dueTest_fold :
    (s.dueTest).fold = s.fold := rfl
@[simp] theorem State.dueTest_repairQueue :
    (s.dueTest).repairQueue = s.repairQueue := rfl
@[simp] theorem State.dueTest_repair :
    (s.dueTest).repair = s.repair := rfl
@[simp] theorem State.dueTest_queue :
    (s.dueTest).queue = s.queue := rfl
@[simp] theorem State.dueTest_postings :
    (s.dueTest).postings = s.postings := rfl
@[simp] theorem State.dueTest_runCount :
    (s.dueTest).runCount = s.runCount := rfl
@[simp] theorem State.dueTest_faultRecord :
    (s.dueTest).faultRecord = s.faultRecord := rfl
@[simp] theorem State.dueTest_holds :
    (s.dueTest).holds = s.holds := rfl
@[simp] theorem State.dueTest_testDue :
    (s.dueTest).testDue = true := rfl
@[simp] theorem State.dueTest_ring :
    (s.dueTest).ring = s.ring := rfl
@[simp] theorem State.dueTest_flags :
    (s.dueTest).flags = s.flags := rfl
@[simp] theorem State.dueTest_enables :
    (s.dueTest).enables = s.enables := rfl
@[simp] theorem State.dueTest_mselLow :
    (s.dueTest).mselLow = s.mselLow := rfl
@[simp] theorem State.dueTest_frame :
    (s.dueTest).frame = s.frame := rfl
@[simp] theorem State.dueTest_lastRefused :
    (s.dueTest).lastRefused = s.lastRefused := rfl
@[simp] theorem State.dueTest_resetSince :
    (s.dueTest).resetSince = s.resetSince := rfl
@[simp] theorem State.dueTest_resetCause :
    (s.dueTest).resetCause = s.resetCause := rfl
@[simp] theorem State.dueTest_mclk :
    (s.dueTest).mclk = s.mclk := rfl
@[simp] theorem State.dueTest_pending :
    (s.dueTest).pending = s.pending := rfl

/-! ### `State.enterEntry` -/

@[simp] theorem State.enterEntry_run (e : Entry) :
    (s.enterEntry e).run = s.run := rfl
@[simp] theorem State.enterEntry_refdiv (e : Entry) :
    (s.enterEntry e).refdiv = s.refdiv := rfl
@[simp] theorem State.enterEntry_windows (e : Entry) :
    (s.enterEntry e).windows = s.windows := rfl
@[simp] theorem State.enterEntry_active (e : Entry) :
    (s.enterEntry e).active = s.active := rfl
@[simp] theorem State.enterEntry_through (e : Entry) :
    (s.enterEntry e).through = s.through := rfl
@[simp] theorem State.enterEntry_issued (e : Entry) :
    (s.enterEntry e).issued = s.issued := rfl
@[simp] theorem State.enterEntry_responses (e : Entry) :
    (s.enterEntry e).responses = s.responses := rfl
@[simp] theorem State.enterEntry_lanes (e : Entry) :
    (s.enterEntry e).lanes = s.lanes := rfl
@[simp] theorem State.enterEntry_foldQueue (e : Entry) :
    (s.enterEntry e).foldQueue = s.foldQueue := rfl
@[simp] theorem State.enterEntry_contexts (e : Entry) :
    (s.enterEntry e).contexts = s.contexts := rfl
@[simp] theorem State.enterEntry_freeList (e : Entry) :
    (s.enterEntry e).freeList = s.freeList := rfl
@[simp] theorem State.enterEntry_votes (e : Entry) :
    (s.enterEntry e).votes = s.votes := rfl
@[simp] theorem State.enterEntry_fold (e : Entry) :
    (s.enterEntry e).fold = s.fold := rfl
@[simp] theorem State.enterEntry_repairQueue (e : Entry) :
    (s.enterEntry e).repairQueue = s.repairQueue := rfl
@[simp] theorem State.enterEntry_repair (e : Entry) :
    (s.enterEntry e).repair = s.repair := rfl
@[simp] theorem State.enterEntry_queue (e : Entry) :
    (s.enterEntry e).queue = s.queue ++ [e] := rfl
@[simp] theorem State.enterEntry_postings (e : Entry) :
    (s.enterEntry e).postings = s.postings := rfl
@[simp] theorem State.enterEntry_runCount (e : Entry) :
    (s.enterEntry e).runCount = s.runCount := rfl
@[simp] theorem State.enterEntry_faultRecord (e : Entry) :
    (s.enterEntry e).faultRecord = s.faultRecord := rfl
@[simp] theorem State.enterEntry_holds (e : Entry) :
    (s.enterEntry e).holds = s.holds := rfl
@[simp] theorem State.enterEntry_testDue (e : Entry) :
    (s.enterEntry e).testDue = s.testDue := rfl
@[simp] theorem State.enterEntry_ring (e : Entry) :
    (s.enterEntry e).ring = s.ring := rfl
@[simp] theorem State.enterEntry_flags (e : Entry) :
    (s.enterEntry e).flags = s.flags := rfl
@[simp] theorem State.enterEntry_enables (e : Entry) :
    (s.enterEntry e).enables = s.enables := rfl
@[simp] theorem State.enterEntry_mselLow (e : Entry) :
    (s.enterEntry e).mselLow = s.mselLow := rfl
@[simp] theorem State.enterEntry_frame (e : Entry) :
    (s.enterEntry e).frame = s.frame := rfl
@[simp] theorem State.enterEntry_lastRefused (e : Entry) :
    (s.enterEntry e).lastRefused = s.lastRefused := rfl
@[simp] theorem State.enterEntry_resetSince (e : Entry) :
    (s.enterEntry e).resetSince = s.resetSince := rfl
@[simp] theorem State.enterEntry_resetCause (e : Entry) :
    (s.enterEntry e).resetCause = s.resetCause := rfl
@[simp] theorem State.enterEntry_mclk (e : Entry) :
    (s.enterEntry e).mclk = s.mclk := rfl
@[simp] theorem State.enterEntry_pending (e : Entry) :
    (s.enterEntry e).pending = s.pending := rfl

/-! ### `State.joinThrough` -/

@[simp] theorem State.joinThrough_run (t : Through) :
    (s.joinThrough t).run = s.run := rfl
@[simp] theorem State.joinThrough_refdiv (t : Through) :
    (s.joinThrough t).refdiv = s.refdiv := rfl
@[simp] theorem State.joinThrough_windows (t : Through) :
    (s.joinThrough t).windows = s.windows := rfl
@[simp] theorem State.joinThrough_active (t : Through) :
    (s.joinThrough t).active = s.active := rfl
@[simp] theorem State.joinThrough_through (t : Through) :
    (s.joinThrough t).through = s.through ++ [t] := rfl
@[simp] theorem State.joinThrough_issued (t : Through) :
    (s.joinThrough t).issued = s.issued := rfl
@[simp] theorem State.joinThrough_responses (t : Through) :
    (s.joinThrough t).responses = s.responses := rfl
@[simp] theorem State.joinThrough_lanes (t : Through) :
    (s.joinThrough t).lanes = s.lanes := rfl
@[simp] theorem State.joinThrough_foldQueue (t : Through) :
    (s.joinThrough t).foldQueue = s.foldQueue := rfl
@[simp] theorem State.joinThrough_contexts (t : Through) :
    (s.joinThrough t).contexts = s.contexts := rfl
@[simp] theorem State.joinThrough_freeList (t : Through) :
    (s.joinThrough t).freeList = s.freeList := rfl
@[simp] theorem State.joinThrough_votes (t : Through) :
    (s.joinThrough t).votes = s.votes := rfl
@[simp] theorem State.joinThrough_fold (t : Through) :
    (s.joinThrough t).fold = s.fold := rfl
@[simp] theorem State.joinThrough_repairQueue (t : Through) :
    (s.joinThrough t).repairQueue = s.repairQueue := rfl
@[simp] theorem State.joinThrough_repair (t : Through) :
    (s.joinThrough t).repair = s.repair := rfl
@[simp] theorem State.joinThrough_queue (t : Through) :
    (s.joinThrough t).queue = s.queue := rfl
@[simp] theorem State.joinThrough_postings (t : Through) :
    (s.joinThrough t).postings = s.postings := rfl
@[simp] theorem State.joinThrough_runCount (t : Through) :
    (s.joinThrough t).runCount = s.runCount := rfl
@[simp] theorem State.joinThrough_faultRecord (t : Through) :
    (s.joinThrough t).faultRecord = s.faultRecord := rfl
@[simp] theorem State.joinThrough_holds (t : Through) :
    (s.joinThrough t).holds = s.holds := rfl
@[simp] theorem State.joinThrough_testDue (t : Through) :
    (s.joinThrough t).testDue = s.testDue := rfl
@[simp] theorem State.joinThrough_ring (t : Through) :
    (s.joinThrough t).ring = s.ring := rfl
@[simp] theorem State.joinThrough_flags (t : Through) :
    (s.joinThrough t).flags = s.flags := rfl
@[simp] theorem State.joinThrough_enables (t : Through) :
    (s.joinThrough t).enables = s.enables := rfl
@[simp] theorem State.joinThrough_mselLow (t : Through) :
    (s.joinThrough t).mselLow = s.mselLow := rfl
@[simp] theorem State.joinThrough_frame (t : Through) :
    (s.joinThrough t).frame = s.frame := rfl
@[simp] theorem State.joinThrough_lastRefused (t : Through) :
    (s.joinThrough t).lastRefused = s.lastRefused := rfl
@[simp] theorem State.joinThrough_resetSince (t : Through) :
    (s.joinThrough t).resetSince = s.resetSince := rfl
@[simp] theorem State.joinThrough_resetCause (t : Through) :
    (s.joinThrough t).resetCause = s.resetCause := rfl
@[simp] theorem State.joinThrough_mclk (t : Through) :
    (s.joinThrough t).mclk = s.mclk := rfl
@[simp] theorem State.joinThrough_pending (t : Through) :
    (s.joinThrough t).pending = s.pending := rfl

/-! ### `State.beginPosting` -/

@[simp] theorem State.beginPosting_run (p : Poster) (u : Option UnitId) (l : List PostStep) :
    (s.beginPosting p u l).run = s.run := rfl
@[simp] theorem State.beginPosting_refdiv (p : Poster) (u : Option UnitId) (l : List PostStep) :
    (s.beginPosting p u l).refdiv = s.refdiv := rfl
@[simp] theorem State.beginPosting_windows (p : Poster) (u : Option UnitId) (l : List PostStep) :
    (s.beginPosting p u l).windows = s.windows := rfl
@[simp] theorem State.beginPosting_active (p : Poster) (u : Option UnitId) (l : List PostStep) :
    (s.beginPosting p u l).active = s.active := rfl
@[simp] theorem State.beginPosting_through (p : Poster) (u : Option UnitId) (l : List PostStep) :
    (s.beginPosting p u l).through = s.through := rfl
@[simp] theorem State.beginPosting_issued (p : Poster) (u : Option UnitId) (l : List PostStep) :
    (s.beginPosting p u l).issued = s.issued := rfl
@[simp] theorem State.beginPosting_responses (p : Poster) (u : Option UnitId) (l : List PostStep) :
    (s.beginPosting p u l).responses = s.responses := rfl
@[simp] theorem State.beginPosting_lanes (p : Poster) (u : Option UnitId) (l : List PostStep) :
    (s.beginPosting p u l).lanes = s.lanes := rfl
@[simp] theorem State.beginPosting_foldQueue (p : Poster) (u : Option UnitId) (l : List PostStep) :
    (s.beginPosting p u l).foldQueue = s.foldQueue := rfl
@[simp] theorem State.beginPosting_contexts (p : Poster) (u : Option UnitId) (l : List PostStep) :
    (s.beginPosting p u l).contexts = s.contexts := rfl
@[simp] theorem State.beginPosting_freeList (p : Poster) (u : Option UnitId) (l : List PostStep) :
    (s.beginPosting p u l).freeList = s.freeList := rfl
@[simp] theorem State.beginPosting_votes (p : Poster) (u : Option UnitId) (l : List PostStep) :
    (s.beginPosting p u l).votes = s.votes := rfl
@[simp] theorem State.beginPosting_fold (p : Poster) (u : Option UnitId) (l : List PostStep) :
    (s.beginPosting p u l).fold = s.fold := rfl
@[simp] theorem State.beginPosting_repairQueue (p : Poster) (u : Option UnitId) (l : List PostStep) :
    (s.beginPosting p u l).repairQueue = s.repairQueue := rfl
@[simp] theorem State.beginPosting_repair (p : Poster) (u : Option UnitId) (l : List PostStep) :
    (s.beginPosting p u l).repair = s.repair := rfl
@[simp] theorem State.beginPosting_queue (p : Poster) (u : Option UnitId) (l : List PostStep) :
    (s.beginPosting p u l).queue = s.queue := rfl
@[simp] theorem State.beginPosting_postings (p : Poster) (u : Option UnitId) (l : List PostStep) :
    (s.beginPosting p u l).postings = s.postings ++ [⟨p, u, l⟩] := rfl
@[simp] theorem State.beginPosting_runCount (p : Poster) (u : Option UnitId) (l : List PostStep) :
    (s.beginPosting p u l).runCount = s.runCount := rfl
@[simp] theorem State.beginPosting_faultRecord (p : Poster) (u : Option UnitId) (l : List PostStep) :
    (s.beginPosting p u l).faultRecord = s.faultRecord := rfl
@[simp] theorem State.beginPosting_holds (p : Poster) (u : Option UnitId) (l : List PostStep) :
    (s.beginPosting p u l).holds = s.holds := rfl
@[simp] theorem State.beginPosting_testDue (p : Poster) (u : Option UnitId) (l : List PostStep) :
    (s.beginPosting p u l).testDue = s.testDue := rfl
@[simp] theorem State.beginPosting_ring (p : Poster) (u : Option UnitId) (l : List PostStep) :
    (s.beginPosting p u l).ring = s.ring := rfl
@[simp] theorem State.beginPosting_flags (p : Poster) (u : Option UnitId) (l : List PostStep) :
    (s.beginPosting p u l).flags = s.flags := rfl
@[simp] theorem State.beginPosting_enables (p : Poster) (u : Option UnitId) (l : List PostStep) :
    (s.beginPosting p u l).enables = s.enables := rfl
@[simp] theorem State.beginPosting_mselLow (p : Poster) (u : Option UnitId) (l : List PostStep) :
    (s.beginPosting p u l).mselLow = s.mselLow := rfl
@[simp] theorem State.beginPosting_frame (p : Poster) (u : Option UnitId) (l : List PostStep) :
    (s.beginPosting p u l).frame = s.frame := rfl
@[simp] theorem State.beginPosting_lastRefused (p : Poster) (u : Option UnitId) (l : List PostStep) :
    (s.beginPosting p u l).lastRefused = s.lastRefused := rfl
@[simp] theorem State.beginPosting_resetSince (p : Poster) (u : Option UnitId) (l : List PostStep) :
    (s.beginPosting p u l).resetSince = s.resetSince := rfl
@[simp] theorem State.beginPosting_resetCause (p : Poster) (u : Option UnitId) (l : List PostStep) :
    (s.beginPosting p u l).resetCause = s.resetCause := rfl
@[simp] theorem State.beginPosting_mclk (p : Poster) (u : Option UnitId) (l : List PostStep) :
    (s.beginPosting p u l).mclk = s.mclk := rfl
@[simp] theorem State.beginPosting_pending (p : Poster) (u : Option UnitId) (l : List PostStep) :
    (s.beginPosting p u l).pending = s.pending := rfl

/-! ### `State.respond` -/

@[simp] theorem State.respond_run (k : Fin 4) (r : Response) :
    (s.respond k r).run = s.run := rfl
@[simp] theorem State.respond_refdiv (k : Fin 4) (r : Response) :
    (s.respond k r).refdiv = s.refdiv := rfl
@[simp] theorem State.respond_windows (k : Fin 4) (r : Response) :
    (s.respond k r).windows = s.windows := rfl
@[simp] theorem State.respond_active (k : Fin 4) (r : Response) :
    (s.respond k r).active = s.active.filter (fun a => a.initiator != k) := rfl
@[simp] theorem State.respond_through (k : Fin 4) (r : Response) :
    (s.respond k r).through = s.through := rfl
@[simp] theorem State.respond_issued (k : Fin 4) (r : Response) :
    (s.respond k r).issued = s.issued := rfl
@[simp] theorem State.respond_responses (k : Fin 4) (r : Response) :
    (s.respond k r).responses = s.responses.set k (some r) := rfl
@[simp] theorem State.respond_lanes (k : Fin 4) (r : Response) :
    (s.respond k r).lanes = s.lanes := rfl
@[simp] theorem State.respond_foldQueue (k : Fin 4) (r : Response) :
    (s.respond k r).foldQueue = s.foldQueue := rfl
@[simp] theorem State.respond_contexts (k : Fin 4) (r : Response) :
    (s.respond k r).contexts = s.contexts := rfl
@[simp] theorem State.respond_freeList (k : Fin 4) (r : Response) :
    (s.respond k r).freeList = s.freeList := rfl
@[simp] theorem State.respond_votes (k : Fin 4) (r : Response) :
    (s.respond k r).votes = s.votes := rfl
@[simp] theorem State.respond_fold (k : Fin 4) (r : Response) :
    (s.respond k r).fold = s.fold := rfl
@[simp] theorem State.respond_repairQueue (k : Fin 4) (r : Response) :
    (s.respond k r).repairQueue = s.repairQueue := rfl
@[simp] theorem State.respond_repair (k : Fin 4) (r : Response) :
    (s.respond k r).repair = s.repair := rfl
@[simp] theorem State.respond_queue (k : Fin 4) (r : Response) :
    (s.respond k r).queue = s.queue := rfl
@[simp] theorem State.respond_postings (k : Fin 4) (r : Response) :
    (s.respond k r).postings = s.postings := rfl
@[simp] theorem State.respond_runCount (k : Fin 4) (r : Response) :
    (s.respond k r).runCount = s.runCount := rfl
@[simp] theorem State.respond_faultRecord (k : Fin 4) (r : Response) :
    (s.respond k r).faultRecord = s.faultRecord := rfl
@[simp] theorem State.respond_holds (k : Fin 4) (r : Response) :
    (s.respond k r).holds = s.holds := rfl
@[simp] theorem State.respond_testDue (k : Fin 4) (r : Response) :
    (s.respond k r).testDue = s.testDue := rfl
@[simp] theorem State.respond_ring (k : Fin 4) (r : Response) :
    (s.respond k r).ring = s.ring := rfl
@[simp] theorem State.respond_flags (k : Fin 4) (r : Response) :
    (s.respond k r).flags = s.flags := rfl
@[simp] theorem State.respond_enables (k : Fin 4) (r : Response) :
    (s.respond k r).enables = s.enables := rfl
@[simp] theorem State.respond_mselLow (k : Fin 4) (r : Response) :
    (s.respond k r).mselLow = s.mselLow := rfl
@[simp] theorem State.respond_frame (k : Fin 4) (r : Response) :
    (s.respond k r).frame = s.frame := rfl
@[simp] theorem State.respond_lastRefused (k : Fin 4) (r : Response) :
    (s.respond k r).lastRefused = s.lastRefused := rfl
@[simp] theorem State.respond_resetSince (k : Fin 4) (r : Response) :
    (s.respond k r).resetSince = s.resetSince := rfl
@[simp] theorem State.respond_resetCause (k : Fin 4) (r : Response) :
    (s.respond k r).resetCause = s.resetCause := rfl
@[simp] theorem State.respond_mclk (k : Fin 4) (r : Response) :
    (s.respond k r).mclk = s.mclk := rfl
@[simp] theorem State.respond_pending (k : Fin 4) (r : Response) :
    (s.respond k r).pending = s.pending := rfl

/-! ### `State.modifyActive` -/

@[simp] theorem State.modifyActive_run (k : Fin 4) (f : Active → Active) :
    (s.modifyActive k f).run = s.run := rfl
@[simp] theorem State.modifyActive_refdiv (k : Fin 4) (f : Active → Active) :
    (s.modifyActive k f).refdiv = s.refdiv := rfl
@[simp] theorem State.modifyActive_windows (k : Fin 4) (f : Active → Active) :
    (s.modifyActive k f).windows = s.windows := rfl
@[simp] theorem State.modifyActive_active (k : Fin 4) (f : Active → Active) :
    (s.modifyActive k f).active = s.active.map (fun a => if a.initiator = k then f a else a) := rfl
@[simp] theorem State.modifyActive_through (k : Fin 4) (f : Active → Active) :
    (s.modifyActive k f).through = s.through := rfl
@[simp] theorem State.modifyActive_issued (k : Fin 4) (f : Active → Active) :
    (s.modifyActive k f).issued = s.issued := rfl
@[simp] theorem State.modifyActive_responses (k : Fin 4) (f : Active → Active) :
    (s.modifyActive k f).responses = s.responses := rfl
@[simp] theorem State.modifyActive_lanes (k : Fin 4) (f : Active → Active) :
    (s.modifyActive k f).lanes = s.lanes := rfl
@[simp] theorem State.modifyActive_foldQueue (k : Fin 4) (f : Active → Active) :
    (s.modifyActive k f).foldQueue = s.foldQueue := rfl
@[simp] theorem State.modifyActive_contexts (k : Fin 4) (f : Active → Active) :
    (s.modifyActive k f).contexts = s.contexts := rfl
@[simp] theorem State.modifyActive_freeList (k : Fin 4) (f : Active → Active) :
    (s.modifyActive k f).freeList = s.freeList := rfl
@[simp] theorem State.modifyActive_votes (k : Fin 4) (f : Active → Active) :
    (s.modifyActive k f).votes = s.votes := rfl
@[simp] theorem State.modifyActive_fold (k : Fin 4) (f : Active → Active) :
    (s.modifyActive k f).fold = s.fold := rfl
@[simp] theorem State.modifyActive_repairQueue (k : Fin 4) (f : Active → Active) :
    (s.modifyActive k f).repairQueue = s.repairQueue := rfl
@[simp] theorem State.modifyActive_repair (k : Fin 4) (f : Active → Active) :
    (s.modifyActive k f).repair = s.repair := rfl
@[simp] theorem State.modifyActive_queue (k : Fin 4) (f : Active → Active) :
    (s.modifyActive k f).queue = s.queue := rfl
@[simp] theorem State.modifyActive_postings (k : Fin 4) (f : Active → Active) :
    (s.modifyActive k f).postings = s.postings := rfl
@[simp] theorem State.modifyActive_runCount (k : Fin 4) (f : Active → Active) :
    (s.modifyActive k f).runCount = s.runCount := rfl
@[simp] theorem State.modifyActive_faultRecord (k : Fin 4) (f : Active → Active) :
    (s.modifyActive k f).faultRecord = s.faultRecord := rfl
@[simp] theorem State.modifyActive_holds (k : Fin 4) (f : Active → Active) :
    (s.modifyActive k f).holds = s.holds := rfl
@[simp] theorem State.modifyActive_testDue (k : Fin 4) (f : Active → Active) :
    (s.modifyActive k f).testDue = s.testDue := rfl
@[simp] theorem State.modifyActive_ring (k : Fin 4) (f : Active → Active) :
    (s.modifyActive k f).ring = s.ring := rfl
@[simp] theorem State.modifyActive_flags (k : Fin 4) (f : Active → Active) :
    (s.modifyActive k f).flags = s.flags := rfl
@[simp] theorem State.modifyActive_enables (k : Fin 4) (f : Active → Active) :
    (s.modifyActive k f).enables = s.enables := rfl
@[simp] theorem State.modifyActive_mselLow (k : Fin 4) (f : Active → Active) :
    (s.modifyActive k f).mselLow = s.mselLow := rfl
@[simp] theorem State.modifyActive_frame (k : Fin 4) (f : Active → Active) :
    (s.modifyActive k f).frame = s.frame := rfl
@[simp] theorem State.modifyActive_lastRefused (k : Fin 4) (f : Active → Active) :
    (s.modifyActive k f).lastRefused = s.lastRefused := rfl
@[simp] theorem State.modifyActive_resetSince (k : Fin 4) (f : Active → Active) :
    (s.modifyActive k f).resetSince = s.resetSince := rfl
@[simp] theorem State.modifyActive_resetCause (k : Fin 4) (f : Active → Active) :
    (s.modifyActive k f).resetCause = s.resetCause := rfl
@[simp] theorem State.modifyActive_mclk (k : Fin 4) (f : Active → Active) :
    (s.modifyActive k f).mclk = s.mclk := rfl
@[simp] theorem State.modifyActive_pending (k : Fin 4) (f : Active → Active) :
    (s.modifyActive k f).pending = s.pending := rfl

/-! ### Reading an indexed record after a store -/

theorem State.setWindow_get (w v : Fin 8) (x : Window) :
    (s.setWindow w x).windows[v] = if v = w then x else s.windows[v] := by
  simp only [State.setWindow_windows, Fin.getElem_fin, Vector.getElem_set, Fin.ext_iff, eq_comm]

theorem State.setLane_get (k j : Fin 4) (x : Lane) :
    (s.setLane k x).lanes[j] = if j = k then x else s.lanes[j] := by
  simp only [State.setLane_lanes, Fin.getElem_fin, Vector.getElem_set, Fin.ext_iff, eq_comm]

theorem State.setContext_get (i j : Fin 32) (x : Option Context) :
    (s.setContext i x).contexts[j] = if j = i then x else s.contexts[j] := by
  simp only [State.setContext_contexts, Fin.getElem_fin, Vector.getElem_set, Fin.ext_iff, eq_comm]

theorem State.setHold_get (k j : Fin 4) (x : Option HoldRecord) :
    (s.setHold k x).holds[j] = if j = k then x else s.holds[j] := by
  simp only [State.setHold_holds, Fin.getElem_fin, Vector.getElem_set, Fin.ext_iff, eq_comm]

end Sys2Proof.Machine
end

