-- ==== Sys2Proof/Laws/Ops.lean ====
section
/-! SUPPORT. For each shared operation what it does, case by case. -/

namespace Sys2Proof.Machine

/-! ### Taking effect of a maintenance command -/

theorem State.command_of_no_frame (s : State) (args : Nat) (e : State → Effect) (h : s.frame = none) :
    s.command args e = s := by
  unfold State.command; rw [h]

theorem State.command_of_replied (s : State) (args : Nat) (e : State → Effect) (f : Frame) (r : Reply)
    (h : s.frame = some f) (hr : f.reply = some r) : s.command args e = s := by
  unfold State.command; simp only [h, hr]

theorem State.command_of_listening (s : State) (args : Nat) (e : State → Effect) (f : Frame) (h : s.Listening f) :
    s.command args e = (e { s with frame := none }).state.replied f args (e { s with frame := none }).result
      (e { s with frame := none }).data := by
  unfold State.command; simp only [h.1, h.2]; rfl

theorem State.windowCommand_of_listening (s : State) (args : Nat) (window : Byte) (w : Fin 8)
    (e : Fin 8 → State → Effect) (f : Frame) (h : s.Listening f) (hw : window.toNat = w.val) :
    s.windowCommand args window e = (e w { s with frame := none }).state.replied f args
      (e w { s with frame := none }).result (e w { s with frame := none }).data := by
  have hlt : window.toNat < 8 := hw ▸ w.isLt
  unfold State.windowCommand
  rw [s.command_of_listening _ _ f h]
  simp only [dif_pos hlt, show (⟨window.toNat, hlt⟩ : Fin 8) = w from Fin.ext hw]

theorem State.windowCommand_of_badWindow (s : State) (args : Nat) (window : Byte) (e : Fin 8 → State → Effect) (f : Frame)
    (h : s.Listening f) (hw : 8 ≤ window.toNat) :
    s.windowCommand args window e = s.replied f args .badWin [] := by
  unfold State.windowCommand
  rw [s.command_of_listening _ _ f h]
  simp only [dif_neg (Nat.not_lt.mpr hw)]
  rfl

/-! ### Searching the unit table -/

theorem holdsUnit_iff (u : UnitId) (x : Option Context) : holdsUnit u x = true ↔ ∃ c, x = some c ∧ c.uid = u := by
  cases x <;> simp [holdsUnit]

theorem State.findContext_some (s : State) (u : UnitId) (i : Fin 32) (h : s.findContext u = some i) :
    ∃ c, s.contexts[i] = some c ∧ c.uid = u := by
  have hi : holdsUnit u s.contexts[i] = true := List.find?_some (p := fun i : Fin 32 => holdsUnit u s.contexts[i]) h
  exact (holdsUnit_iff _ _).mp hi

theorem State.findContext_none (s : State) (u : UnitId) :
    s.findContext u = none ↔ ∀ (i : Fin 32) (c : Context), s.contexts[i] = some c → c.uid ≠ u := by
  unfold State.findContext
  rw [List.find?_eq_none]
  constructor
  · intro h i c hc hu
    exact h i (List.mem_finRange i) ((holdsUnit_iff _ _).mpr ⟨c, hc, hu⟩)
  · intro h i _ hi
    obtain ⟨c, hc, hu⟩ := (holdsUnit_iff _ _).mp hi
    exact h i c hc hu

/-- With distinct units the slot found is the unit's own. -/
theorem State.UnitsDistinct.findContext {s : State} (h : s.UnitsDistinct) (u : UnitId) (i : Fin 32) (c : Context)
    (hc : s.contexts[i] = some c) (hu : c.uid = u) : s.findContext u = some i := by
  cases hf : s.findContext u with
  | none => exact absurd hu ((s.findContext_none u).mp hf i c hc)
  | some j =>
    obtain ⟨d, hd, hdu⟩ := s.findContext_some u j hf
    rw [h j i d c hd hc (hdu.trans hu.symm)]

theorem State.mem_windowContexts (s : State) (w : Fin 8) (i : Fin 32) :
    i ∈ s.windowContexts w ↔ ∃ c, s.contexts[i] = some c ∧ c.uid.window = w := by
  unfold State.windowContexts
  rw [List.mem_filter]
  simp only [List.mem_finRange, true_and]
  cases s.contexts[i] <;> simp [holdsWindow]

theorem State.freeSlot_some (s : State) (i : Fin 32) (h : s.freeSlot = some i) : s.contexts[i] = none := by
  have := List.find?_some h
  simpa using this

theorem State.freeSlot_none (s : State) : s.freeSlot = none ↔ ∀ i : Fin 32, s.contexts[i] ≠ none := by
  unfold State.freeSlot
  rw [List.find?_eq_none]
  simp

/-! ### Contexts -/

theorem State.modifyContext_of_held (s : State) (i : Fin 32) (f : Context → Context) (c : Context)
    (h : s.contexts[i] = some c) : s.modifyContext i f = s.setContext i (some (f c)) := by
  unfold State.modifyContext; rw [h]

theorem State.modifyContext_of_free (s : State) (i : Fin 32) (f : Context → Context) (h : s.contexts[i] = none) :
    s.modifyContext i f = s := by
  unfold State.modifyContext; rw [h]

theorem State.release_of_held (s : State) (i : Fin 32) (c : Context) (h : s.contexts[i] = some c) :
    s.release i = { s with contexts := s.contexts.set i none, freeList := s.freeList ++ c.granules } := by
  unfold State.release; rw [h]; rfl

theorem State.release_of_free (s : State) (i : Fin 32) (h : s.contexts[i] = none) : s.release i = s := by
  unfold State.release; rw [h]

theorem State.releaseIfDone_of_done (s : State) (i : Fin 32) (c : Context) (h : s.contexts[i] = some c)
    (hd : c.done = true) : s.releaseIfDone i = s.release i := by
  unfold State.releaseIfDone; simp only [h, hd, if_true]

theorem State.releaseIfDone_of_not_done (s : State) (i : Fin 32) (c : Context) (h : s.contexts[i] = some c)
    (hd : c.done = false) : s.releaseIfDone i = s := by
  unfold State.releaseIfDone; simp only [h, hd]; rfl

/-! ### Granules -/

/-- Storing a slot moves the old slot's granules out of the held ones and the new slot's in. -/
theorem heldGranules_set (s : State) (i : Fin 32) (x : Option Context) :
    (slotGranules s.contexts[i] ++ (s.setContext i x).heldGranules).Perm (slotGranules x ++ s.heldGranules) := by
  have key : ∀ (l : List (Option Context)) (n : Nat) (h : n < l.length),
      (slotGranules l[n] ++ (l.set n x).flatMap slotGranules).Perm (slotGranules x ++ l.flatMap slotGranules) := by
    intro l
    induction l with
    | nil => intro n h; exact absurd h (Nat.not_lt_zero n)
    | cons y l ih =>
      intro n h
      cases n with
      | zero =>
        simp only [List.getElem_cons_zero, List.set_cons_zero, List.flatMap_cons, ← List.append_assoc]
        exact List.perm_append_comm.append_right _
      | succ n =>
        simp only [List.getElem_cons_succ, List.set_cons_succ, List.flatMap_cons]
        have h' := ih n (Nat.lt_of_succ_lt_succ h)
        refine (List.perm_append_comm_assoc _ _ _).trans ?_
        exact (h'.append_left _).trans (List.perm_append_comm_assoc _ _ _)
  have := key s.contexts.toList i.val (by simp)
  unfold State.heldGranules
  simpa [State.setContext, Vector.toList_set] using this

/-! ### Lanes -/

theorem State.tear_of_none (s : State) (k : Fin 4) (h : s.lanes[k].filling = none) : s.tear k = s := by
  unfold State.tear; rw [h]

theorem State.tear_of_filling (s : State) (k : Fin 4) (f : Filling) (h : s.lanes[k].filling = some f) :
    s.tear k = { s with
      lanes := s.lanes.set k { s.lanes[k].setBuffer f.buffer .free with filling := none, timer := none }
      windows := s.windows.set f.uid.window { s.windows[f.uid.window] with
        counters := { s.windows[f.uid.window].counters with
          passesTorn := satInc s.windows[f.uid.window].counters.passesTorn } }
      flags := s.flags ||| 0x004 } := by
  unfold State.tear; rw [h]; rfl

theorem State.startPass_none (s : State) (k : Fin 4) (u : UnitId) (q : Quad) :
    s.startPass k u q = none ↔ s.lanes[k].buffer0 ≠ .free ∧ s.lanes[k].buffer1 ≠ .free := by
  unfold State.startPass Lane.freeBuffer
  by_cases h0 : s.lanes[k].buffer0 = .free
  · rw [if_pos h0]; exact ⟨nofun, fun h => absurd h0 (And.left h)⟩
  · rw [if_neg h0]
    by_cases h1 : s.lanes[k].buffer1 = .free
    · rw [if_pos h1]; exact ⟨nofun, fun h => absurd h1 (And.right h)⟩
    · rw [if_neg h1]; exact ⟨fun _ => ⟨h0, h1⟩, fun _ => rfl⟩

/-! ### The write-back queue and its postings -/

theorem Entry.ownedBy_unit (e : Entry) (u : UnitId) : e.ownedBy (· == u) = (e.owner == some u) := by
  unfold Entry.ownedBy; cases e.owner <;> rfl

theorem Posting.ownedBy_unit (x : Posting) (u : UnitId) : x.ownedBy (· == u) = (x.owner == some u) := by
  unfold Posting.ownedBy; cases x.owner <;> rfl

theorem State.removeEntries_eq (s : State) (u : UnitId) :
    s.removeEntries (· == u) = { s with
      queue := s.queue.filter (fun e => e.owner != some u)
      runCount := if s.queue.filter (fun e => e.owner != some u) = [] then 0 else s.runCount
      testDue := s.testDue || s.queue.any (fun e => e.owner == some u) } := by
  simp only [State.removeEntries, Entry.ownedBy_unit, bne]

theorem State.endPostings_eq (s : State) (u : UnitId) :
    s.endPostings (· == u) = { s with
      postings := s.postings.filter (fun x => x.owner != some u)
      testDue := s.testDue || s.postings.any (fun x => x.owner == some u) } := by
  simp only [State.endPostings, Posting.ownedBy_unit, bne]

theorem State.acceptNotice_discarded (s : State) (n : Notice) (h : s.ring.enabled = false) : s.acceptNotice n = some s := by
  simp [State.acceptNotice, Ring.fate, h]

theorem State.acceptNotice_placed (s : State) (n : Notice) (h : s.ring.enabled = true) (hb : s.ring.backlog = [])
    (hf : s.ring.full = false) : s.acceptNotice n = if s.queueHasRoom then some (s.placeNotice n) else none := by
  simp [State.acceptNotice, Ring.fate, h, hb, hf]

theorem State.acceptNotice_backlogged (s : State) (n : Notice) (h : s.ring.enabled = true)
    (hb : s.ring.backlog ≠ [] ∨ s.ring.full = true) (hl : s.ring.backlog.length < 8) :
    s.acceptNotice n = some { s with ring := { s.ring with backlog := s.ring.backlog ++ [n] } } := by
  have : ¬ (s.ring.backlog = [] ∧ ¬ s.ring.full = true) := by rcases hb with hb | hb <;> simp [hb]
  unfold State.acceptNotice Ring.fate
  rw [if_pos h, if_neg this, if_pos (show s.ring.backlog.length < Config.backlogRoom from hl)]

theorem State.acceptNotice_dropped (s : State) (n : Notice) (h : s.ring.enabled = true)
    (hb : s.ring.backlog ≠ [] ∨ s.ring.full = true) (hl : 8 ≤ s.ring.backlog.length) :
    s.acceptNotice n = some (s.setFlag .ringLost) := by
  have : ¬ (s.ring.backlog = [] ∧ ¬ s.ring.full = true) := by rcases hb with hb | hb <;> simp [hb]
  unfold State.acceptNotice Ring.fate
  rw [if_pos h, if_neg this, if_neg (show ¬ s.ring.backlog.length < Config.backlogRoom from Nat.not_lt.mpr hl)]

theorem State.onPosterContext_queue (s : State) (p : Poster) (f : Context → Context) :
    (s.onPosterContext p f).queue = s.queue := by
  unfold State.onPosterContext State.modifyContext
  cases p.slot with
  | none => rfl
  | some i => dsimp only; cases s.contexts[i] <;> rfl

/-- The queue of the state `t` is that of `s`, or it has one entry more where `s` had room. -/
def State.QueueGrows (s t : State) : Prop := t.queue = s.queue ∨ s.queue.length < 16 ∧ ∃ e, t.queue = s.queue ++ [e]

theorem State.queueGrows_of_room {s t u : State} (e : Entry) (hu : u.queue = s.queue ++ [e])
    (h : (if s.queueHasRoom then some u else none) = some t) : s.QueueGrows t := by
  rw [Option.ite_none_right_eq_some] at h
  rw [← Option.some.inj h.2]
  exact Or.inr ⟨of_decide_eq_true h.1, e, hu⟩

theorem State.queueGrows_of_same {s t u : State} (hu : u.queue = s.queue) (h : some u = some t) : s.QueueGrows t :=
  Or.inl (Option.some.inj h ▸ hu)

theorem State.acceptNotice_queue (s : State) (n : Notice) (t : State) (h : s.acceptNotice n = some t) : s.QueueGrows t := by
  unfold State.acceptNotice at h
  cases hf : s.ring.fate with
  | discarded => exact queueGrows_of_same rfl (by simpa only [hf] using h)
  | placed => exact queueGrows_of_room (s.ring.entry n) rfl (by simpa only [hf] using h)
  | backlogged => rw [hf] at h; exact queueGrows_of_same (by rfl) h
  | dropped => exact queueGrows_of_same (s.setFlag_queue .ringLost) (by simpa only [hf] using h)

theorem State.moveBacklog_queue (s t : State) (h : s.moveBacklog = some t) : s.QueueGrows t := by
  unfold State.moveBacklog at h
  cases hb : s.ring.backlog with
  | nil => exact queueGrows_of_same rfl (by simpa only [hb] using h)
  | cons n rest =>
    rw [hb] at h
    exact queueGrows_of_room (s.ring.entry n) rfl h

/-- A step taken leaves the queue at most one entry longer, and longer only where it had room. -/
theorem State.takeStep_queue (s : State) (x : Posting) (p : PostStep) (t : State) (h : s.takeStep x p = some t) :
    s.QueueGrows t := by
  unfold State.takeStep at h
  cases p with
  | chunk j =>
    cases hu : x.owner with
    | none => exact queueGrows_of_same rfl (by simpa only [hu] using h)
    | some u =>
      rw [hu] at h
      exact queueGrows_of_room (s.chunkEntry u x.poster j) (State.onPosterContext_queue _ _ _) h
  | trailer =>
    cases hu : x.owner with
    | none => exact queueGrows_of_same rfl (by simpa only [hu] using h)
    | some u =>
      rw [hu] at h
      exact queueGrows_of_room (s.trailerEntry u x.poster) (State.onPosterContext_queue _ _ _) h
  | notice =>
    cases hu : x.owner with
    | none => exact s.moveBacklog_queue t (by simpa only [hu] using h)
    | some u => exact s.acceptNotice_queue _ t (by simpa only [hu] using h)

/-- What a taken feeding step can be: it takes the first posting's next step, and completes the posting with its last one. -/
theorem State.feed_some (s t : State) (h : s.feed = some t) :
    ∃ x rest, s.postings = x :: rest
      ∧ ((x.steps = [] ∧ t = { s with postings := rest }.completePosting x)
        ∨ ∃ p steps u, x.steps = p :: steps ∧ s.takeStep x p = some u
          ∧ ((steps = [] ∧ t = { u with postings := rest }.completePosting x)
            ∨ (steps ≠ [] ∧ t = { u with postings := { x with steps := steps } :: rest }))) := by
  unfold State.feed at h
  cases hp : s.postings with
  | nil => simp only [hp, reduceCtorEq] at h
  | cons x rest =>
    refine ⟨x, rest, rfl, ?_⟩
    simp only [hp] at h
    cases hs : x.steps with
    | nil => exact Or.inl ⟨rfl, (Option.some.inj (by simpa only [hs] using h)).symm⟩
    | cons p steps =>
      simp only [hs] at h
      cases hu : s.takeStep x p with
      | none => simp only [hu, reduceCtorEq] at h
      | some u =>
        simp only [hu] at h
        refine Or.inr ⟨p, steps, u, rfl, hu, ?_⟩
        cases steps with
        | nil => exact Or.inl ⟨rfl, (Option.some.inj h).symm⟩
        | cons q more => exact Or.inr ⟨List.cons_ne_nil q more, (Option.some.inj h).symm⟩

/-! ### Counters and verdicts -/

theorem satInc_le (n : Nat) (h : n ≤ 65535) : satInc n ≤ 65535 := by
  unfold satInc Config.counterMax; split <;> omega

/-- A final verdict sets the settle-map entry, counts in the verdict's counter and sets its flag. -/
theorem State.finalVerdict_eq (s : State) (u : UnitId) (v : Verdict) :
    s.finalVerdict u v = { s with
      windows := s.windows.set u.window { s.windows[u.window] with
        settled := insertAsc u.unit s.windows[u.window].settled
        counters := s.windows[u.window].counters.bump v.counter }
      flags := s.flags ||| v.flag.mask } := by
  simp [State.finalVerdict, State.settleUnit, State.bump, State.setWindow, State.setFlag]

end Sys2Proof.Machine
end

