-- ==== Sys2Proof/Laws/Frame.lean ====
section
/-! SUPPORT. What the shared operations leave untouched: one lemma per operation, up to the whole of what an event brings
about at once (`State.settle_untouched`). -/

namespace Sys2Proof.Machine

theorem State.Untouched.refl (s : State) : s.Untouched s := by constructor <;> simp

theorem State.Untouched.trans {s t u : State} (h : s.Untouched t) (g : t.Untouched u) : s.Untouched u := by
  constructor
  · rw [g.run, h.run]
  · rw [g.refdiv, h.refdiv]
  · rw [g.issued, h.issued]
  · rw [g.faultRecord, h.faultRecord]
  · rw [g.enables, h.enables]
  · rw [g.mselLow, h.mselLow]
  · rw [g.frame, h.frame]
  · rw [g.lastRefused, h.lastRefused]
  · rw [g.resetSince, h.resetSince]
  · rw [g.resetCause, h.resetCause]
  · rw [g.mclk, h.mclk]
  · rw [g.pending, h.pending]
  · intro w; rw [g.profile, h.profile]

/-- An operation that stores nothing but fields outside the untouched ones. -/
theorem State.Untouched.of_fields {s t : State} (h1 : t.run = s.run) (h2 : t.refdiv = s.refdiv)
    (h3 : t.issued = s.issued) (h4 : t.faultRecord = s.faultRecord) (h5 : t.enables = s.enables)
    (h6 : t.mselLow = s.mselLow) (h7 : t.frame = s.frame) (h8 : t.lastRefused = s.lastRefused)
    (h9 : t.resetSince = s.resetSince) (h10 : t.resetCause = s.resetCause) (h11 : t.mclk = s.mclk)
    (h12 : t.pending = s.pending) (h13 : t.windows = s.windows) : s.Untouched t :=
  ⟨h1, h2, h3, h4, h5, h6, h7, h8, h9, h10, h11, h12, fun w => by simp [State.profile, h13]⟩

/-- A left fold of operations each of which leaves the state untouched. -/
theorem State.Untouched.foldl {α : Type} {f : State → α → State} (h : ∀ (s : State) (a : α), s.Untouched (f s a)) :
    ∀ (l : List α) (s : State), s.Untouched (l.foldl f s)
  | [], s => .refl s
  | a :: l, s => (h s a).trans (State.Untouched.foldl h l _)

/-- An operation that may not be due: what it gives, when it gives anything, leaves the state untouched. -/
def State.Leaves (s : State) (o : Option State) : Prop := ∀ t, o = some t → s.Untouched t

theorem State.Leaves.nothing (s : State) : s.Leaves none := fun _ e => by cases e

theorem State.Leaves.given {s t : State} (h : s.Untouched t) : s.Leaves (some t) := fun _ e => Option.some.inj e ▸ h

theorem State.Leaves.ite {s : State} {a b : Option State} (c : Prop) [Decidable c] (ha : s.Leaves a) (hb : s.Leaves b) :
    s.Leaves (if c then a else b) := by
  by_cases h : c
  · rw [if_pos h]; exact ha
  · rw [if_neg h]; exact hb

theorem State.Leaves.or {s : State} {a b : Option State} (ha : s.Leaves a) (hb : s.Leaves b) : s.Leaves (a.or b) := by
  cases a with
  | none => exact hb
  | some x => exact ha

/-- What follows an operation that gave a state. -/
theorem State.Leaves.map {s : State} {a : Option State} {f : State → State} (ha : s.Leaves a)
    (hf : ∀ t : State, t.Untouched (f t)) : s.Leaves (a.map f) := by
  cases a with
  | none => exact .nothing s
  | some x => exact .given ((ha x rfl).trans (hf x))

section
variable (s : State)

/-! ### Plain updates -/

theorem State.setWindow_untouched (w : Fin 8) (x : Window) (h : x.profile = s.profile w) : s.Untouched (s.setWindow w x) := by
  constructor <;> try rfl
  intro v
  simp only [State.profile, State.setWindow_get]
  split
  · subst v; exact h
  · rfl

theorem State.setLane_untouched (k : Fin 4) (x : Lane) : s.Untouched (s.setLane k x) := by
  apply State.Untouched.of_fields <;> rfl

theorem State.setContext_untouched (i : Fin 32) (x : Option Context) : s.Untouched (s.setContext i x) := by
  apply State.Untouched.of_fields <;> rfl

theorem State.setHold_untouched (k : Fin 4) (x : Option HoldRecord) : s.Untouched (s.setHold k x) := by
  apply State.Untouched.of_fields <;> rfl

theorem State.setFlag_untouched (f : Flag) : s.Untouched (s.setFlag f) := by
  apply State.Untouched.of_fields <;> rfl

theorem State.dueTest_untouched : s.Untouched s.dueTest := by
  apply State.Untouched.of_fields <;> rfl

theorem State.enterEntry_untouched (e : Entry) : s.Untouched (s.enterEntry e) := by
  apply State.Untouched.of_fields <;> rfl

theorem State.joinThrough_untouched (t : Through) : s.Untouched (s.joinThrough t) := by
  apply State.Untouched.of_fields <;> rfl

theorem State.beginPosting_untouched (p : Poster) (u : Option UnitId) (l : List PostStep) :
    s.Untouched (s.beginPosting p u l) := by
  apply State.Untouched.of_fields <;> rfl

theorem State.respond_untouched (k : Fin 4) (r : Response) : s.Untouched (s.respond k r) := by
  apply State.Untouched.of_fields <;> rfl

theorem State.modifyActive_untouched (k : Fin 4) (f : Active → Active) : s.Untouched (s.modifyActive k f) := by
  apply State.Untouched.of_fields <;> rfl

/-! ### Counters, settle map, contexts, removals -/

theorem State.bump_untouched (w : Fin 8) (c : Counter) : s.Untouched (s.bump w c) :=
  s.setWindow_untouched _ _ rfl

theorem State.settleUnit_untouched (u : UnitId) : s.Untouched (s.settleUnit u) :=
  s.setWindow_untouched _ _ rfl

theorem State.freePass_untouched (p : StagedPass) : s.Untouched (s.freePass p) := s.setLane_untouched _ _

theorem State.modifyContext_untouched (i : Fin 32) (f : Context → Context) : s.Untouched (s.modifyContext i f) := by
  unfold State.modifyContext
  split
  · exact s.setContext_untouched _ _
  · exact .refl s

theorem State.release_untouched (i : Fin 32) : s.Untouched (s.release i) := by
  unfold State.release
  split
  · apply State.Untouched.of_fields <;> rfl
  · exact .refl s

theorem State.releaseIfDone_untouched (i : Fin 32) : s.Untouched (s.releaseIfDone i) := by
  unfold State.releaseIfDone
  split
  · split
    · exact s.release_untouched i
    · exact .refl s
  · exact .refl s

theorem State.dropLateRuns_untouched (w : Fin 8) : s.Untouched (s.dropLateRuns w) := by
  unfold State.dropLateRuns
  apply State.Untouched.foldl
  intro t k
  split
  · exact t.setLane_untouched _ _
  · exact .refl t

theorem State.removeEntries_untouched (p : UnitId → Bool) : s.Untouched (s.removeEntries p) := by
  apply State.Untouched.of_fields <;> rfl

theorem State.endPostings_untouched (p : UnitId → Bool) : s.Untouched (s.endPostings p) := by
  apply State.Untouched.of_fields <;> rfl

theorem State.discardRecords_untouched (w : Fin 8) : s.Untouched (s.discardRecords w) := by
  apply State.Untouched.of_fields <;> rfl

theorem State.changeWindow_untouched (w : Fin 8) (x : WindowState) : s.Untouched (s.changeWindow w x) := by
  unfold State.changeWindow
  refine (s.setWindow_untouched w { s.windows[w] with state := x } rfl).trans ?_
  apply State.Untouched.of_fields <;> rfl

theorem State.windowOff_untouched (w : Fin 8) : s.Untouched (s.windowOff w) :=
  (s.changeWindow_untouched w .off).trans (State.dropLateRuns_untouched _ w)

/-! ### Lanes -/

theorem State.tear_untouched (k : Fin 4) : s.Untouched (s.tear k) := by
  unfold State.tear
  split
  · exact .refl s
  · exact ((s.setLane_untouched _ _).trans (State.bump_untouched _ _ _)).trans (State.setFlag_untouched _ _)

theorem State.orphan_untouched (w : Fin 8) : s.Untouched (s.orphan w) :=
  (s.bump_untouched _ _).trans (State.setFlag_untouched _ _)

theorem State.endLateRun_untouched (k : Fin 4) : s.Untouched (s.endLateRun k) := s.setLane_untouched _ _

theorem State.startPass_leaves (k : Fin 4) (u : UnitId) (q : Quad) : s.Leaves (s.startPass k u q) := by
  unfold State.startPass
  cases s.lanes[k].freeBuffer with
  | none => exact .nothing s
  | some b => exact .given (s.setLane_untouched k _)

theorem State.appendBeat_untouched (k : Fin 4) (f : Filling) (o : Nat) (q : Quad) : s.Untouched (s.appendBeat k f o q) := by
  unfold State.appendBeat
  simp only
  split
  · apply State.Untouched.of_fields <;> rfl
  · exact s.setLane_untouched _ _

theorem State.beginLate_untouched (k : Fin 4) (u : UnitId) : s.Untouched (s.beginLate k u) :=
  ((s.setLane_untouched _ _).trans (State.bump_untouched _ _ _)).trans (State.setFlag_untouched _ _)

theorem State.continueLate_untouched (k : Fin 4) (u : UnitId) (o : Nat) (b : Bool) : s.Untouched (s.continueLate k u o b) := by
  unfold State.continueLate
  split
  · exact s.setLane_untouched _ _
  · exact s.endLateRun_untouched k

theorem State.laneBeat_leaves (k : Fin 4) (u : UnitId) (o : Nat) (closing : Bool) (b : Beat) :
    s.Leaves (s.laneBeat k u o closing b) := by
  have torn := s.tear_untouched k
  have ended := torn.trans (State.endLateRun_untouched _ k)
  refine .ite _ (.ite _ (.given (ended.trans (State.beginLate_untouched _ k u)))
    (.ite _ (fun t h => torn.trans (State.startPass_leaves _ k u b.data t h))
      (.given (ended.trans (State.orphan_untouched _ u.window))))) ?_
  cases s.lanes[k].expects u o with
  | some f => exact .ite _ (.given (s.appendBeat_untouched k f o b.data)) (.given torn)
  | none =>
    exact .ite _ (.given (s.continueLate_untouched k u o b.enables.all)) (.given (s.orphan_untouched u.window))

/-! ### Postings -/

theorem State.onPosterContext_untouched (p : Poster) (f : Context → Context) : s.Untouched (s.onPosterContext p f) := by
  unfold State.onPosterContext
  split
  · exact s.modifyContext_untouched _ _
  · exact .refl s

theorem State.placeNotice_untouched (n : Notice) : s.Untouched (s.placeNotice n) := by
  apply State.Untouched.of_fields <;> rfl

theorem State.acceptNotice_leaves (n : Notice) : s.Leaves (s.acceptNotice n) := by
  unfold State.acceptNotice
  cases s.ring.fate with
  | discarded => exact .given (.refl s)
  | placed => exact .ite _ (.given (s.placeNotice_untouched n)) (.nothing s)
  | backlogged => refine .given ?_; apply State.Untouched.of_fields <;> rfl
  | dropped => exact .given (s.setFlag_untouched .ringLost)

theorem State.moveBacklog_leaves : s.Leaves s.moveBacklog := by
  unfold State.moveBacklog
  cases s.ring.backlog with
  | nil => exact .given (.refl s)
  | cons n rest =>
    refine .ite _ (.given ?_) (.nothing s)
    apply State.Untouched.of_fields <;> rfl

theorem State.endFold_untouched : s.Untouched s.endFold := by
  unfold State.endFold
  split
  · apply State.Untouched.of_fields <;> rfl
  · exact .refl s

theorem State.completeFold_untouched (u : UnitId) (i : Fin 32) (o : FoldOutcome) : s.Untouched (s.completeFold u i o) := by
  unfold State.completeFold
  have h := ((s.endFold_untouched).trans (State.bump_untouched _ u.window .passesFolded)).trans
    (State.modifyContext_untouched _ i (fun c => { c.endPosting with state := o.stateAfter }))
  cases o
  · exact h.trans (State.releaseIfDone_untouched _ _)
  · exact h.trans (State.releaseIfDone_untouched _ _)
  · exact h.trans (State.releaseIfDone_untouched _ _)
  · refine h.trans ?_
    apply State.Untouched.of_fields <;> rfl
  · exact h

theorem State.completePosting_untouched (x : Posting) : s.Untouched (s.completePosting x) := by
  unfold State.completePosting
  split
  · exact (s.completeFold_untouched _ _ _).trans (State.dueTest_untouched _)
  · exact s.endFold_untouched.trans (State.dueTest_untouched _)
  · refine State.Untouched.trans (t := { s with repair := none }) ?_ ?_
    · apply State.Untouched.of_fields <;> rfl
    · exact ((State.modifyContext_untouched _ _ _).trans (State.releaseIfDone_untouched _ _)).trans
        (State.dueTest_untouched _)
  · exact ((s.modifyContext_untouched _ _).trans (State.releaseIfDone_untouched _ _)).trans (State.dueTest_untouched _)
  · exact s.dueTest_untouched
  · exact .refl s
  · exact .refl s

theorem State.takeStep_leaves (x : Posting) (p : PostStep) : s.Leaves (s.takeStep x p) := by
  have entered : ∀ (e : Entry) (f : Context → Context),
      s.Leaves (if s.queueHasRoom then some ((s.enterEntry e).onPosterContext x.poster f) else none) := fun e f =>
    .ite _ (.given ((s.enterEntry_untouched e).trans (State.onPosterContext_untouched _ x.poster f))) (.nothing s)
  unfold State.takeStep
  cases x.owner with
  | none =>
    cases p with
    | chunk j => exact .given (.refl s)
    | trailer => exact .given (.refl s)
    | notice => exact s.moveBacklog_leaves
  | some u =>
    cases p with
    | chunk j => exact entered _ _
    | trailer => exact entered _ _
    | notice => exact s.acceptNotice_leaves _

theorem State.feed_leaves : s.Leaves s.feed := by
  intro t h
  have drop : ∀ (u : State) (l : List Posting), u.Untouched { u with postings := l } := fun u l => by
    apply State.Untouched.of_fields <;> rfl
  obtain ⟨x, rest, -, ⟨-, rfl⟩ | ⟨p, steps, u, -, hu, ⟨-, rfl⟩ | ⟨-, rfl⟩⟩⟩ := s.feed_some t h
  · exact (drop s rest).trans (State.completePosting_untouched _ x)
  · exact ((s.takeStep_leaves x p u hu).trans (drop u rest)).trans (State.completePosting_untouched _ x)
  · exact (s.takeStep_leaves x p u hu).trans (drop u _)

/-! ### Engines -/

theorem State.finalVerdict_untouched (u : UnitId) (v : Verdict) : s.Untouched (s.finalVerdict u v) :=
  ((s.settleUnit_untouched u).trans (State.bump_untouched _ _ _)).trans (State.setFlag_untouched _ _)

theorem State.lateDiscard_untouched (p : StagedPass) : s.Untouched (s.lateDiscard p) :=
  ((s.freePass_untouched p).trans (State.bump_untouched _ _ _)).trans (State.setFlag_untouched _ _)

theorem State.beginUpdating_untouched (p : StagedPass) (i : Fin 32) : s.Untouched (s.beginUpdating p i) := by
  have step : ∀ t : State, t.Untouched
      { t.modifyContext i (fun c => { c with state := .folding }) with fold := some ⟨p, .updating i⟩ } := fun t => by
    refine (t.modifyContext_untouched i (fun c => { c with state := .folding })).trans ?_
    apply State.Untouched.of_fields <;> rfl
  unfold State.beginUpdating
  refine State.Untouched.trans (t := { s with repairQueue := s.repairQueue.filter (· != i) }) ?_ ?_
  · apply State.Untouched.of_fields <;> rfl
  · simp only
    split
    · split
      · refine State.Untouched.trans ?_ (step _)
        apply State.Untouched.of_fields <;> rfl
      · exact step _
    · exact step _

theorem State.admission_untouched (p : StagedPass) (i : Fin 32) : s.Untouched (s.admission p i) := by
  apply State.Untouched.of_fields <;> rfl

theorem State.deny_untouched (p : StagedPass) : s.Untouched (s.deny p) := by
  unfold State.deny
  refine ((s.bump_untouched p.uid.window .denials).trans (State.setFlag_untouched _ .denied)).trans ?_
  apply State.Untouched.of_fields <;> rfl

theorem State.tryAdmit_untouched (p : StagedPass) : s.Untouched (s.tryAdmit p) := by
  unfold State.tryAdmit
  split
  · split
    · exact s.admission_untouched _ _
    · exact s.deny_untouched _
  · exact s.deny_untouched _

theorem State.foldChecks_untouched (p : StagedPass) : s.Untouched (s.foldChecks p) := by
  unfold State.foldChecks
  split
  · exact s.lateDiscard_untouched p
  · split
    · exact s.tryAdmit_untouched p
    · split
      · exact s.tryAdmit_untouched p
      · split
        · exact s.lateDiscard_untouched p
        · exact s.beginUpdating_untouched p _

theorem State.foldStart_untouched : s.Untouched s.foldStart := by
  unfold State.foldStart
  split
  · exact .refl s
  · refine State.Untouched.trans ?_ (State.foldChecks_untouched _ _)
    apply State.Untouched.of_fields <;> rfl

theorem State.evaluate_untouched (pass : StagedPass) (i : Fin 32) (c : Context) : s.Untouched (s.evaluate pass i c) := by
  unfold State.evaluate
  simp only
  split
  · refine State.Untouched.trans ?_ ((State.finalVerdict_untouched _ _ _).trans (State.beginPosting_untouched _ _ _ _))
    apply State.Untouched.of_fields <;> rfl
  · refine State.Untouched.trans ?_ (State.beginPosting_untouched _ _ _ _)
    apply State.Untouched.of_fields <;> rfl

theorem State.repairTake_untouched : s.Untouched s.repairTake := by
  unfold State.repairTake
  split
  · exact .refl s
  · split
    · apply State.Untouched.of_fields <;> rfl
    · apply State.Untouched.of_fields <;> rfl

theorem State.finishRepair_untouched (i : Fin 32) (c : Context) (v : Verdict) : s.Untouched (s.finishRepair i c v) := by
  unfold State.finishRepair
  simp only
  refine State.Untouched.trans ?_ ((State.finalVerdict_untouched _ _ _).trans (State.beginPosting_untouched _ _ _ _))
  apply State.Untouched.of_fields <;> rfl

theorem State.endSearch_untouched (i : Fin 32) (c : Context) (cands : List Nat) (syn : BitVec 32) :
    s.Untouched (s.endSearch i c cands syn) := by
  unfold State.endSearch
  simp only
  split
  · exact s.finishRepair_untouched _ _ _
  · apply State.Untouched.of_fields <;> rfl

theorem State.unsettle_untouched (i : Fin 32) : s.Untouched (s.unsettle i) := by
  unfold State.unsettle
  split
  · exact .refl s
  · split
    · exact ((s.setContext_untouched _ _).trans (State.finalVerdict_untouched _ _ _)).trans
        (State.beginPosting_untouched _ _ _ _)
    · exact .refl s

theorem State.endDrain_untouched (w : Fin 8) : s.Untouched (s.endDrain w) :=
  (s.windowOff_untouched w).trans (State.setFlag_untouched _ _)

theorem State.stopFold_untouched (p : UnitId → Bool) : s.Untouched (s.stopFold p) := by
  unfold State.stopFold
  split
  · split
    · exact s.endFold_untouched
    · exact .refl s
  · exact .refl s

theorem State.stopRepair_untouched (p : UnitId → Bool) : s.Untouched (s.stopRepair p) := by
  unfold State.stopRepair
  simp only
  split
  · split
    · apply State.Untouched.of_fields <;> rfl
    · apply State.Untouched.of_fields <;> rfl
  · apply State.Untouched.of_fields <;> rfl

theorem State.releaseUnit_untouched (u : UnitId) : s.Untouched (s.releaseUnit u) := by
  unfold State.releaseUnit
  split
  · exact s.release_untouched _
  · exact .refl s

theorem State.overrideUnit_untouched (u : UnitId) : s.Untouched (s.overrideUnit u) := by
  unfold State.overrideUnit
  simp only
  exact ((((((s.removeEntries_untouched _).trans (State.endPostings_untouched _ _)).trans
    (State.stopFold_untouched _ _)).trans (State.stopRepair_untouched _ _)).trans
    (State.releaseUnit_untouched _ _)).trans (State.settleUnit_untouched _ _)).trans
    ((State.bump_untouched _ _ _).trans (State.setFlag_untouched _ _))

/-! ### Beats and at-once steps -/

theorem State.answerIfDone_untouched (a : Active) : s.Untouched (s.answerIfDone a) := by
  unfold State.answerIfDone
  split
  · exact s.respond_untouched _ _
  · exact .refl s

theorem State.dealt_untouched (a : Active) (n pieces : Nat) : s.Untouched (s.dealt a n pieces) := by
  unfold State.dealt
  exact (s.modifyActive_untouched _ _).trans (State.answerIfDone_untouched _ _)

theorem State.forwardPiece_untouched (a : Active) (b : WaitingBeat) (rest : List WaitingBeat) :
    s.Untouched (s.forwardPiece a b rest) := by
  unfold State.forwardPiece
  simp only
  split
  · exact (s.joinThrough_untouched _).trans (State.dealt_untouched _ _ _ _)
  · exact ((s.joinThrough_untouched _).trans (State.dealt_untouched _ _ _ _)).trans (State.overrideUnit_untouched _ _)

theorem State.advance_leaves (a : Active) : s.Leaves (s.advance a) := by
  unfold State.advance
  cases a.waiting with
  | nil => exact .nothing s
  | cons b rest =>
    dsimp only
    cases b.cls with
    | outside => exact .given (s.forwardPiece_untouched a b rest)
    | slot u o region capture closing =>
      cases capture with
      | false => exact .given (s.forwardPiece_untouched a b rest)
      | true =>
        exact .ite _ (.nothing s) (.ite _ (.given (s.dealt_untouched a 1 0))
          ((s.laneBeat_leaves a.initiator u o closing b.beat).map (fun t => t.dealt_untouched a 1 0)))

theorem State.atOnceBeats_leaves : s.Leaves s.atOnceBeats := by
  intro t h
  obtain ⟨a, -, ha⟩ := List.exists_of_findSome?_eq_some h
  exact s.advance_leaves a t ha

theorem State.atOnceDrain_leaves : s.Leaves s.atOnceDrain := by
  unfold State.atOnceDrain
  cases s.unsettleSlots with
  | cons i is => exact .given (.foldl State.unsettle_untouched (i :: is) s)
  | nil =>
    cases (List.finRange 8).find? s.drainEnds with
    | none => exact .nothing s
    | some w => exact .given (s.endDrain_untouched w)

theorem State.atOnceBacklog_leaves : s.Leaves s.atOnceBacklog :=
  .ite _ (.given (s.beginPosting_untouched .backlog none [.notice])) (.nothing s)

theorem State.atOnceTake_leaves : s.Leaves s.atOnceTake :=
  .ite _ (.given s.repairTake_untouched) (.ite _ (.given s.foldStart_untouched) (.nothing s))

/-- One at-once step. -/
theorem State.atOnce_leaves : s.Leaves s.atOnce :=
  s.atOnceBeats_leaves.or (s.atOnceTake_leaves.or (s.atOnceDrain_leaves.or (s.atOnceBacklog_leaves.or s.feed_leaves)))

theorem State.markStalled_untouched : s.Untouched s.markStalled := by
  apply State.Untouched.of_fields <;> rfl

theorem State.testHold_untouched (k : Fin 4) : s.Untouched (s.testHold k) := by
  unfold State.testHold
  split
  · split
    · exact s.setHold_untouched _ _
    · exact .refl s
  · exact .refl s

theorem State.testHolds_untouched : s.Untouched s.testHolds := by
  unfold State.testHolds
  split
  · refine (State.Untouched.foldl State.testHold_untouched (List.finRange 4) s).trans ?_
    apply State.Untouched.of_fields <;> rfl
  · exact .refl s

end

theorem State.drive_untouched : ∀ (n : Nat) (s : State), s.Untouched (State.drive n s)
  | 0, s => .refl s
  | n + 1, s => by
    unfold State.drive
    split
    · exact .refl s
    · rename_i t ht
      exact (s.atOnce_leaves t ht).trans (State.drive_untouched n t)

/-- Everything an event brings about at once, and the hold test at its end, leaves these untouched. -/
theorem State.settle_untouched (s : State) : s.Untouched s.settle := by
  unfold State.settle
  refine (((State.drive_untouched Config.stepFuel s).trans ?_).trans (State.markStalled_untouched _)).trans
    (State.testHolds_untouched _)
  apply State.Untouched.of_fields <;> rfl

end Sys2Proof.Machine
end

