-- ==== Sys2Proof/Laws/Quiet.lean ====
section
/-! SUPPORT. When nothing is due: an event that leaves a quiet state brings nothing further about. -/

namespace Sys2Proof.Machine

theorem State.drive_of_quiet (n : Nat) (s : State) (h : s.Quiet) : State.drive n s = s := by
  cases n with
  | zero => rfl
  | succ n => unfold State.drive; rw [show s.atOnce = none from h]

theorem State.drive_step (n : Nat) (s t : State) (h : s.atOnce = some t) : State.drive (n + 1) s = State.drive n t := by
  rw [State.drive, h]

theorem State.orderJoined_length (s : State) : s.orderJoined s.through.length = s := by
  unfold State.orderJoined
  simp

theorem State.testHolds_of_not_due (s : State) (h : s.testDue = false) : s.testHolds = s := by
  unfold State.testHolds
  simp [h]

theorem Active.markStalled_of_none (a : Active) (h : a.waiting = []) : a.markStalled = a := if_pos h

/-- With no beat waiting no write is stalled. -/
theorem State.markStalled_of_none (s : State) (h : ∀ a ∈ s.active, a.waiting = []) : s.markStalled = s := by
  have hm : s.active.map Active.markStalled = s.active :=
    (List.map_congr_left (fun a ha => a.markStalled_of_none (h a ha))).trans (List.map_id _)
  unfold State.markStalled
  rw [hm]

/-- In a quiet state an event ends with the marking of stalled writes and the hold test. -/
theorem State.settle_of_quiet (s : State) (h : s.Quiet) : s.settle = s.markStalled.testHolds := by
  unfold State.settle
  rw [State.drive_of_quiet _ s h, State.orderJoined_length]

/-- An event whose first at-once step leaves a quiet state. -/
theorem State.settle_of_step (s t : State) (h : s.atOnce = some t) (hq : t.Quiet) :
    s.settle = (t.orderJoined s.through.length).markStalled.testHolds := by
  unfold State.settle
  rw [show Config.stepFuel = 1023 + 1 from rfl, State.drive_step _ s t h, State.drive_of_quiet _ t hq]

theorem State.advance_nil (s : State) (a : Active) (h : a.waiting = []) : s.advance a = none := by
  unfold State.advance; rw [h]

theorem State.atOnceBeats_of_waiting (s : State) (h : ∀ a ∈ s.active, a.waiting = []) : s.atOnceBeats = none := by
  unfold State.atOnceBeats
  rw [List.findSome?_eq_none_iff]
  exact fun a ha => s.advance_nil a (h a ha)

theorem State.atOnceDrain_of_closing (s : State) (h : ∀ w : Fin 8, s.windows[w].state ≠ .closing) :
    s.atOnceDrain = none := by
  have hc : ∀ w : Fin 8, (s.windows[w].state == .closing) = false := fun w => beq_false_of_ne (h w)
  have hu : s.unsettleSlots = [] := List.filter_eq_nil_iff.mpr fun i _ => by
    unfold State.unsettleDue
    cases s.contexts[i] with
    | none => exact Bool.false_ne_true
    | some c => dsimp only; rw [hc]; simp
  have he : (List.finRange 8).find? s.drainEnds = none := List.find?_eq_none.mpr fun w _ => by
    rw [State.drainEnds, hc]
    simp
  unfold State.atOnceDrain
  rw [hu, he]
  rfl

theorem State.feed_of_no_posting (s : State) (h : s.postings = []) : s.feed = none := by
  unfold State.feed; rw [h]

/-- What quietness is, kind of at-once step by kind. -/
theorem State.quiet_iff (s : State) : s.Quiet ↔ s.atOnceBeats = none ∧ s.atOnceTake = none ∧ s.atOnceDrain = none
    ∧ s.atOnceBacklog = none ∧ s.feed = none := by
  simp only [State.Quiet, State.atOnce, Option.or_eq_none_iff]

theorem State.atOnceTake_none (s : State) : s.atOnceTake = none ↔ s.repairDue = false ∧ s.foldDue = false := by
  unfold State.atOnceTake
  cases s.repairDue <;> cases s.foldDue <;> simp

/-- A calm state whose fold engine has nothing to take is quiet. -/
theorem State.Calm.quiet {s : State} (h : s.Calm) (hf : s.FoldSettled) : s.Quiet :=
  s.quiet_iff.mpr ⟨s.atOnceBeats_of_waiting h.waiting,
    s.atOnceTake_none.mpr ⟨by simp [State.repairDue, h.repairQueue], hf⟩, s.atOnceDrain_of_closing h.closing,
    by simp [State.atOnceBacklog, h.backlog], s.feed_of_no_posting h.postings⟩

/-- With no held read a hold test only clears its own mark. -/
theorem State.testHolds_of_no_hold (s : State) (h : ∀ k : Fin 4, s.holds[k] = none) :
    s.testHolds = { s with testDue := false } := by
  have hk : ∀ k : Fin 4, s.testHold k = s := fun k => by unfold State.testHold; rw [h k]
  have hl : ∀ l : List (Fin 4), l.foldl State.testHold s = s := fun l => by
    induction l with
    | nil => rfl
    | cons k l ih => rw [List.foldl_cons, hk k, ih]
  unfold State.testHolds
  split
  · rw [hl]
  · rename_i hd
    cases s
    simp_all

/-! ### Still states -/

/-- An event that leaves a still state brings nothing further about. -/
theorem State.Still.settle {s : State} (h : s.Still) : s.settle = s := by
  rw [s.settle_of_quiet h.quiet, s.markStalled_of_none h.waiting, s.testHolds_of_not_due h.testDue]

theorem State.Calm.still {s : State} (h : s.Calm) (hf : s.FoldSettled) : s.Still := ⟨h.quiet hf, h.waiting, h.testDue⟩

theorem State.Calm.settle {s : State} (h : s.Calm) (hf : s.FoldSettled) : s.settle = s := (h.still hf).settle

/-- Whether a notice is accepted depends on the queue's length and the ring alone. -/
theorem State.acceptNotice_none_congr {s t : State} (hq : t.queue.length = s.queue.length) (hr : t.ring = s.ring) (m n : Notice) :
    t.acceptNotice m = none ↔ s.acceptNotice n = none := by
  unfold State.acceptNotice State.queueHasRoom
  rw [hr, hq]
  cases s.ring.fate <;> simp

theorem State.moveBacklog_none_congr {s t : State} (hq : t.queue.length = s.queue.length) (hr : t.ring = s.ring) :
    t.moveBacklog = none ↔ s.moveBacklog = none := by
  unfold State.moveBacklog State.queueHasRoom
  rw [hr, hq]
  cases s.ring.backlog <;> simp

/-- Whether a step can be taken depends on the queue's length and the ring alone. -/
theorem State.takeStep_none_congr {s t : State} (hq : t.queue.length = s.queue.length) (hr : t.ring = s.ring) (x : Posting)
    (p : PostStep) : t.takeStep x p = none ↔ s.takeStep x p = none := by
  have room : t.queueHasRoom = s.queueHasRoom := by simp only [State.queueHasRoom, hq]
  unfold State.takeStep
  cases p <;> cases x.owner <;>
    simp only [room, reduceCtorEq, ite_eq_right_iff, State.moveBacklog_none_congr hq hr]
  exact State.acceptNotice_none_congr hq hr _ _

/-- Whether the feeding posting waits depends on the postings, the queue's length and the ring alone. -/
theorem State.feed_none_congr {s t : State} (hp : t.postings = s.postings) (hq : t.queue.length = s.queue.length)
    (hr : t.ring = s.ring) (h : s.feed = none) : t.feed = none := by
  unfold State.feed at h ⊢
  rw [hp]
  cases hx : s.postings with
  | nil => rfl
  | cons x rest =>
    simp only [hx] at h ⊢
    cases hs : x.steps with
    | nil => simp only [hs, reduceCtorEq] at h
    | cons p steps =>
      simp only [hs] at h ⊢
      cases ht : s.takeStep x p with
      | none => rw [(State.takeStep_none_congr hq hr x p).mpr ht]
      | some u => cases steps <;> simp only [ht, reduceCtorEq] at h

/-- A change that leaves what at-once steps read as it stands leaves a still state still. -/
theorem State.Still.congr {s t : State} (h : s.Still) (ha : ∀ a ∈ t.active, a.waiting = [])
    (hw : ∀ w : Fin 8, t.windows[w].state = s.windows[w].state) (hl : ∀ (k : Fin 4) (w : Fin 8), t.lanes[k].fills w = s.lanes[k].fills w)
    (hq : t.foldQueue = s.foldQueue) (hf : t.fold = s.fold) (hc : t.contexts = s.contexts)
    (hp : t.postings = s.postings) (hwq : t.queue = s.queue) (hr : t.ring = s.ring) (hrr : t.repair = s.repair)
    (hrq : t.repairQueue = s.repairQueue) (ht : t.testDue = false) : t.Still := by
  obtain ⟨-, htake, hdrain, hback, hfeed⟩ := s.quiet_iff.mp h.quiet
  have hpq : ∀ w, t.passQuiet w = s.passQuiet w := fun w => by simp only [State.passQuiet, State.foldsIn, hl, hq, hf]
  have hdrain' : t.unsettleSlots = s.unsettleSlots ∧ t.drainEnds = s.drainEnds := by
    constructor
    · have hd : t.unsettleDue = s.unsettleDue := by funext i; simp only [State.unsettleDue, hw, hpq, hc]
      rw [State.unsettleSlots, State.unsettleSlots, hd]
    · funext w; simp only [State.drainEnds, State.windowContexts, hw, hpq, hc]
  refine ⟨t.quiet_iff.mpr ⟨t.atOnceBeats_of_waiting ha, ?_, ?_, ?_, State.feed_none_congr hp (by rw [hwq]) hr hfeed⟩, ha, ht⟩
  · rw [State.atOnceTake_none] at htake ⊢
    simpa only [State.repairDue, State.foldDue, hrr, hrq, hf, hq] using htake
  · unfold State.atOnceDrain at hdrain ⊢
    rw [hdrain'.1, hdrain'.2]
    cases hu : s.unsettleSlots with
    | cons i is => rw [hu] at hdrain; cases hdrain
    | nil => rw [hu] at hdrain; exact Option.map_eq_none_iff.mpr (Option.map_eq_none_iff.mp hdrain)
  · unfold State.atOnceBacklog State.movingBacklog at hback ⊢
    rw [hr, hp]
    exact if_neg fun hd => by rw [if_pos hd] at hback; cases hback

/-- A frame set aside leaves a still state still. -/
theorem State.Still.withoutFrame {s : State} (h : s.Still) : { s with frame := none }.Still :=
  h.congr h.waiting (fun _ => rfl) (fun _ _ => rfl) rfl rfl rfl rfl rfl rfl rfl rfl h.testDue

/-! ### The front of the queue -/

/-- A step with a command in front is that command's effect on the state with the queue's rest. -/
theorem step_cons (c : Instr) (rest : List Instr) (s : State) :
    step { s with pending := c :: rest } = exec c { s with pending := rest } := rfl

/-! ### First of a list -/

theorem takeFirst_none {α : Type} (p : α → Bool) (l : List α) : takeFirst p l = none ↔ ∀ x ∈ l, p x = false := by
  induction l with
  | nil => simp [takeFirst]
  | cons x xs ih =>
    unfold takeFirst
    by_cases hx : p x = true
    · simp [hx]
    · simp [hx, ih]

/-- What `takeFirst` gives: the first element of which `p` holds, taken out of its place. -/
theorem takeFirst_some {α : Type} (p : α → Bool) (l : List α) (x : α) (rest : List α) (h : takeFirst p l = some (x, rest)) :
    ∃ before after, l = before ++ x :: after ∧ rest = before ++ after ∧ p x = true ∧ ∀ y ∈ before, p y = false := by
  induction l generalizing rest with
  | nil => simp [takeFirst] at h
  | cons y ys ih =>
    unfold takeFirst at h
    by_cases hy : p y = true
    · simp only [hy, if_true, Option.some.injEq, Prod.mk.injEq] at h
      obtain ⟨rfl, rfl⟩ := h
      exact ⟨[], _, rfl, rfl, hy, by simp⟩
    · rw [if_neg hy] at h
      cases ht : takeFirst p ys with
      | none => rw [ht] at h; cases h
      | some r =>
        rw [ht] at h
        simp only [Option.map_some, Option.some.injEq, Prod.mk.injEq] at h
        obtain ⟨hx, hr⟩ := h
        obtain ⟨b, a, h1, h2, h3, h4⟩ := ih r.2 (by rw [ht]; simp [← hx])
        refine ⟨y :: b, a, by simp [h1], by rw [← hr, h2]; rfl, h3, ?_⟩
        intro z hz
        rcases List.mem_cons.1 hz with rfl | hz
        · simpa using hy
        · exact h4 z hz

/-! ### What comes next in the frame -/

/-- An edge that waits first and brings a command: that command comes next in the frame. -/
theorem State.nextInFrame_of_clock (s : State) (e : MclkEdge) (rest : List MclkEdge) (c : Instr) (hp : s.pending = [])
    (hm : s.mclk = e :: rest) (h : ({ s with mclk := rest }.clock e).2 = some c) : s.nextInFrame = some c := by
  unfold State.nextInFrame; unfold State.clock at h
  cases hf : s.frame with
  | none => simp [hf] at h
  | some f => cases e <;> simp_all [Frame.commandOf]

/-- An edge that brings none leaves what comes next in the frame. -/
theorem State.nextInFrame_clock (s : State) (e : MclkEdge) (rest : List MclkEdge) (hp : s.pending = [])
    (hm : s.mclk = e :: rest) (h : ({ s with mclk := rest }.clock e).2 = none) :
    ({ s with mclk := rest }.clock e).1.nextInFrame = s.nextInFrame := by
  unfold State.nextInFrame; unfold State.clock at h ⊢
  cases hf : s.frame with
  | none => simp
  | some f => cases e <;> simp_all [Frame.commandOf]

end Sys2Proof.Machine
end

