-- ==== Sys2Proof/Laws/Votes.lean ====
section
/-! SUPPORT. The sparse vote store and the ascending sets: reading after writing, and the one canonical form that every
operation keeps. -/

namespace Sys2Proof.Machine

/-! ### Ascending sets -/

theorem insertAsc_cons (u v : Nat) (l : List Nat) :
    insertAsc u (v :: l) = if u < v then u :: v :: l else if u = v then v :: l else v :: insertAsc u l := rfl

/-- The set with a number added. -/
theorem mem_insertAsc (u m : Nat) : ∀ l : List Nat, m ∈ insertAsc u l ↔ m = u ∨ m ∈ l
  | [] => by rw [insertAsc, List.mem_singleton]; exact (or_iff_left List.not_mem_nil).symm
  | v :: l => by
    rcases Nat.lt_trichotomy u v with below | rfl | above
    · rw [insertAsc_cons, if_pos below, List.mem_cons]
    · rw [insertAsc_cons, if_neg (Nat.lt_irrefl u), if_pos rfl, List.mem_cons]
      exact or_self_left.symm
    · rw [insertAsc_cons, if_neg above.not_gt, if_neg above.ne', List.mem_cons, mem_insertAsc u m l, List.mem_cons]
      exact or_left_comm

theorem insertAsc_sorted (u : Nat) : ∀ l : List Nat, l.Pairwise (· < ·) → (insertAsc u l).Pairwise (· < ·)
  | [], _ => List.pairwise_singleton _ u
  | v :: l, rising => by
    rcases Nat.lt_trichotomy u v with below | rfl | above
    · rw [insertAsc_cons, if_pos below]
      exact (List.isChain_cons_cons.mpr ⟨below, rising.isChain⟩).pairwise
    · rwa [insertAsc_cons, if_neg (Nat.lt_irrefl u), if_pos rfl]
    · rw [insertAsc_cons, if_neg above.not_gt, if_neg above.ne', List.pairwise_cons]
      have parts := List.pairwise_cons.mp rising
      exact ⟨fun m hm => ((mem_insertAsc u m l).mp hm).elim (fun e => e ▸ above) (parts.1 m), insertAsc_sorted u l parts.2⟩

theorem mem_removeAsc (u v : Nat) (l : List Nat) : v ∈ removeAsc u l ↔ v ∈ l ∧ v ≠ u := by
  simp [removeAsc]

theorem removeAsc_sorted (u : Nat) (l : List Nat) (h : l.Pairwise (· < ·)) : (removeAsc u l).Pairwise (· < ·) :=
  h.filter _

theorem mem_sortAsc (v : Nat) (l : List Nat) : v ∈ sortAsc l ↔ v ∈ l := by
  induction l with
  | nil => simp [sortAsc]
  | cons x xs ih =>
    have : sortAsc (x :: xs) = insertAsc x (sortAsc xs) := rfl
    rw [this, mem_insertAsc, ih, List.mem_cons]

theorem sortAsc_sorted (l : List Nat) : (sortAsc l).Pairwise (· < ·) := by
  induction l with
  | nil => exact List.Pairwise.nil
  | cons x xs ih => exact insertAsc_sorted x _ ih

/-! ### Granules -/

theorem VotesWf.tail {x : Nat × List Cell} {v : List (Nat × List Cell)} (h : VotesWf (x :: v)) : VotesWf v :=
  ⟨(List.pairwise_cons.1 h.rising).2, fun y hy => h.listed y (List.mem_cons_of_mem _ hy)⟩

/-- Every granule of the list lies above `m`. -/
def Above (m : Nat) (v : List (Nat × List Cell)) : Prop := ∀ x ∈ v, m < x.1

theorem VotesWf.above {x : Nat × List Cell} {v : List (Nat × List Cell)} (h : VotesWf (x :: v)) : Above x.1 v :=
  (List.pairwise_cons.1 h.rising).1

theorem Above.cons {m : Nat} {x : Nat × List Cell} {v : List (Nat × List Cell)} (hx : m < x.1) (hv : Above m v) :
    Above m (x :: v) := List.forall_mem_cons.mpr ⟨hx, hv⟩

theorem Above.of_lt {m k : Nat} {v : List (Nat × List Cell)} (hv : Above k v) (h : m < k) : Above m v :=
  fun x hx => h.trans (hv x hx)

/-- A granule below another one lies below all that the other lies below. -/
theorem VotesWf.above_of_lt {m k : Nat} {old : List Cell} {v : List (Nat × List Cell)} (h : VotesWf ((k, old) :: v))
    (hm : m < k) : Above m ((k, old) :: v) := .cons hm (h.above.of_lt hm)

theorem putGranule_above {m g : Nat} (cells : List Cell) {v : List (Nat × List Cell)} (hg : m < g) (hv : Above m v) :
    Above m (putGranule g cells v) := by
  by_cases hz : cells = zeroGranule
  · rwa [putGranule, if_pos hz]
  · rw [putGranule, if_neg hz]; exact hv.cons hg

theorem putGranule_wf {g : Nat} (cells : List Cell) {v : List (Nat × List Cell)} (h : VotesWf v) (hv : Above g v) :
    VotesWf (putGranule g cells v) := by
  by_cases hz : cells = zeroGranule
  · rwa [putGranule, if_pos hz]
  · rw [putGranule, if_neg hz]
    exact ⟨List.pairwise_cons.2 ⟨hv, h.rising⟩, List.forall_mem_cons.mpr ⟨hz, h.listed⟩⟩

theorem writeGranule_cons (g k : Nat) (cells old : List Cell) (v : List (Nat × List Cell)) :
    writeGranule g cells ((k, old) :: v) = if g < k then putGranule g cells ((k, old) :: v)
      else if g = k then putGranule g cells v else (k, old) :: writeGranule g cells v := rfl

/-- A store lists nothing at or below a number under the granule and under all that was listed. -/
theorem writeGranule_above (m g : Nat) (cells : List Cell) (hg : m < g) :
    ∀ v : List (Nat × List Cell), Above m v → Above m (writeGranule g cells v)
  | [], hv => putGranule_above cells hg hv
  | (k, old) :: v, hv => by
    have parts := List.forall_mem_cons.mp hv
    rw [writeGranule_cons]
    rcases Nat.lt_trichotomy g k with below | rfl | above
    · rw [if_pos below]; exact putGranule_above cells hg hv
    · rw [if_neg (Nat.lt_irrefl g), if_pos rfl]; exact putGranule_above cells hg parts.2
    · rw [if_neg above.not_gt, if_neg above.ne']
      exact .cons parts.1 (writeGranule_above m g cells hg v parts.2)

/-- A store keeps the canonical form. -/
theorem writeGranule_wf (g : Nat) (cells : List Cell) :
    ∀ v : List (Nat × List Cell), VotesWf v → VotesWf (writeGranule g cells v)
  | [], h => putGranule_wf cells h (fun _ hx => by cases hx)
  | (k, old) :: v, h => by
    rw [writeGranule_cons]
    rcases Nat.lt_trichotomy g k with below | rfl | above
    · rw [if_pos below]; exact putGranule_wf cells h (h.above_of_lt below)
    · rw [if_neg (Nat.lt_irrefl g), if_pos rfl]; exact putGranule_wf cells h.tail h.above
    · rw [if_neg above.not_gt, if_neg above.ne']
      have kept := writeGranule_wf g cells v h.tail
      exact ⟨List.pairwise_cons.2 ⟨writeGranule_above k g cells above v h.above, kept.rising⟩,
        List.forall_mem_cons.mpr ⟨h.listed _ List.mem_cons_self, kept.listed⟩⟩

theorem readGranule_cons (k m : Nat) (old : List Cell) (v : List (Nat × List Cell)) :
    readGranule k ((m, old) :: v) = if k = m then old else readGranule k v := rfl

/-- Reading a granule that is not listed. -/
theorem readGranule_of_above (g : Nat) : ∀ v : List (Nat × List Cell), Above g v → readGranule g v = zeroGranule
  | [], _ => rfl
  | (m, old) :: v, hv => by
    have parts := List.forall_mem_cons.mp hv
    rw [readGranule_cons, if_neg (Nat.ne_of_lt parts.1)]
    exact readGranule_of_above g v parts.2

theorem readGranule_putGranule (g k : Nat) (cells : List Cell) (v : List (Nat × List Cell)) (hv : Above g v) :
    readGranule k (putGranule g cells v) = if k = g then cells else readGranule k v := by
  by_cases hz : cells = zeroGranule
  · rw [putGranule, if_pos hz]
    by_cases hk : k = g
    · rw [if_pos hk, hk, hz]; exact readGranule_of_above g v hv
    · rw [if_neg hk]
  · rw [putGranule, if_neg hz, readGranule_cons]

/-- Reading after a store: the stored cells at that granule, what was there before at every other one. -/
theorem readGranule_writeGranule (g k : Nat) (cells : List Cell) :
    ∀ v : List (Nat × List Cell), VotesWf v →
      readGranule k (writeGranule g cells v) = if k = g then cells else readGranule k v
  | [], _ => readGranule_putGranule g k cells [] (fun _ hx => by cases hx)
  | (m, old) :: v, h => by
    rw [writeGranule_cons]
    rcases Nat.lt_trichotomy g m with below | rfl | above
    · rw [if_pos below]; exact readGranule_putGranule g k cells _ (h.above_of_lt below)
    · rw [if_neg (Nat.lt_irrefl g), if_pos rfl, readGranule_putGranule g k cells v h.above, readGranule_cons]
      by_cases hk : k = g
      · rw [if_pos hk, if_pos hk]
      · rw [if_neg hk, if_neg hk, if_neg hk]
    · rw [if_neg above.not_gt, if_neg above.ne', readGranule_cons, readGranule_writeGranule g k cells v h.tail,
        readGranule_cons]
      by_cases hk : k = m
      · rw [if_pos hk, if_neg (hk ▸ above.ne), if_pos hk]
      · rw [if_neg hk, if_neg hk]

theorem clearGranules_wf (gs : List Nat) (v : List (Nat × List Cell)) (h : VotesWf v) : VotesWf (clearGranules gs v) := by
  induction gs generalizing v with
  | nil => exact h
  | cons g gs ih => exact ih _ (writeGranule_wf g _ v h)

theorem updateGranules_wf (w : Nat) (gs : List Nat) (bits : List Bool) (v : List (Nat × List Cell)) (h : VotesWf v) :
    VotesWf (updateGranules w gs bits v) := by
  induction gs generalizing bits v with
  | nil => exact h
  | cons g gs ih => exact ih _ _ (writeGranule_wf g _ v h)

/-- The first listed granule of a store reads as something else than a granule below it or not listed reads. -/
theorem VotesWf.head_ne {g : Nat} {cells : List Cell} {v u : List (Nat × List Cell)} (h : VotesWf ((g, cells) :: v))
    (hu : Above g u) : readGranule g ((g, cells) :: v) ≠ readGranule g u := by
  rw [readGranule_cons, if_pos rfl, readGranule_of_above g u hu]
  exact h.listed (g, cells) List.mem_cons_self

/-- Two stores in canonical form that read alike at every granule are equal. -/
theorem VotesWf.ext_of_read : ∀ v u : List (Nat × List Cell), VotesWf v → VotesWf u →
    (∀ g, readGranule g v = readGranule g u) → v = u
  | [], [], _, _, _ => rfl
  | [], (k, _) :: _, _, hu, h => absurd (h k).symm (hu.head_ne (fun _ hx => by cases hx))
  | (g, _) :: _, [], hv, _, h => absurd (h g) (hv.head_ne (fun _ hx => by cases hx))
  | (g, cs) :: xs, (k, ds) :: ys, hv, hu, h => by
    rcases Nat.lt_trichotomy g k with below | rfl | above
    · exact absurd (h g) (hv.head_ne (hu.above_of_lt below))
    · have hcs : cs = ds := by simpa only [readGranule_cons, if_pos] using h g
      have htail : xs = ys := VotesWf.ext_of_read xs ys hv.tail hu.tail fun m => by
        by_cases hm : m = g
        · rw [hm, readGranule_of_above g xs hv.above, readGranule_of_above g ys hu.above]
        · simpa only [readGranule_cons, if_neg hm] using h m
      rw [hcs, htail]
    · exact absurd (h k).symm (hu.head_ne (hv.above_of_lt above))

/-! ### Tallies -/

theorem clampTally_range (t : Int) : -7 ≤ clampTally t ∧ clampTally t ≤ 7 := by
  unfold clampTally
  have : Config.tallyMax = 7 := rfl
  omega

theorem Cell.update_range (w : Nat) (c : Cell) (b : Bool) : -7 ≤ (c.update w b).tally ∧ (c.update w b).tally ≤ 7 :=
  clampTally_range _

theorem updateCells_length (w : Nat) (cs : List Cell) (bs : List Bool) : (updateCells w cs bs).length = cs.length := by
  induction cs generalizing bs with
  | nil => cases bs <;> rfl
  | cons c cs ih =>
    cases bs with
    | nil => rfl
    | cons b bs => simp [updateCells, ih]

end Sys2Proof.Machine
end

