-- ==== Sys2Proof/Tests/Slice0.lean ====
section
/-! SUPPORT. Tests: the checks of WellFormed, the spec's own worked numbers, one step of some commands, and for every statement
with hypotheses a state and operands that meet them. -/

namespace Sys2Proof.Tests

open Sys2Proof Sys2Proof.Machine

-- One theorem after the other: elaborated side by side they need more threads than a checker's memory limit gives stacks for.
set_option Elab.async false

/-! ### Small states -/

/-- A profile of four units of 128 bytes under CRC16, initiators 1 to 3 capturing. -/
def p128 : Profile := { Profile.default with base := 0x1000, sizeCode := 0, unitCount := 4 }

def isReady : State := { State.reset with run := .ready, resetSince := false }

def window0 : Window := ⟨.active, p128, [], Counters.zero⟩

/-- Window 0 ACTIVE under `p128`: slot 0 at 0x1000, slot 1 at 0x1088. -/
def opened : State := { isReady with windows := isReady.windows.set 0 window0 }

def u0 : UnitId := ⟨0, 0⟩
def u1 : UnitId := ⟨0, 1⟩

def allOn : Enables := ⟨true, true, true, true⟩
def someOn : Enables := ⟨true, false, false, false⟩
def quad : Quad := ⟨1, 2, 3, 4⟩
def beat : Beat := ⟨quad, allOn⟩
def partBeat : Beat := ⟨quad, someOn⟩

def withLane (s : State) (k : Fin 4) (l : Lane) : State := { s with lanes := s.lanes.set k l }

/-- Lane 1 filling a pass of unit 1 at the expected offset. -/
def fillingAt (expected : Nat) (timer : Option Nat) (s : State) : State :=
  withLane s 1 ⟨some ⟨u1, expected, 0⟩, none, .filling [1, 2, 3, 4], .free, timer⟩

/-- An entry of no owner: it fills the queue. -/
def filler : Entry := ⟨.ring, 0x8000, [quad], none, false⟩

def withQueue (n : Nat) (s : State) : State := { s with queue := List.replicate n filler }

/-- A context of unit 1 with granules 0 and 1. -/
def context (state : ContextState) (passes : Nat) : Context :=
  ⟨u1, state, passes, 0, [0, 1], [0, 1], [], 0, .none, [], 0, false⟩

/-- Context slot 0 holds the context. -/
def withContext (c : Context) (s : State) : State :=
  { s with contexts := s.contexts.set 0 (some c), freeList := (List.range 256).drop 2 }

def pass1 : StagedPass := ⟨1, 0, u1⟩

/-- The bytes of a staged pass of one slot. -/
def image : List Byte := List.replicate 132 0

/-- A pass of unit 1 staged in lane 1 and queued. -/
def staged (s : State) : State :=
  { withLane s 1 ⟨none, none, .staged image, .free, none⟩ with foldQueue := [pass1] }

/-- A pass of unit 0 of lane 2 in a raw posting: the fold engine is busy. -/
def busyFold (s : State) : State := { s with fold := some ⟨⟨2, 0, u0⟩, .raw false⟩ }

/-- A frame is open. -/
def frame : Frame := ⟨0, none, false, [], [], 0⟩
def framed (s : State) : State := { s with mselLow := true, frame := some frame }

/-- A held read of initiator `k`. -/
def withHold (k : Fin 4) (h : HoldRecord) (s : State) : State :=
  { s with
    holds := s.holds.set k (some h)
    active := s.active ++ [⟨k, [], 1, false, false, false⟩]
    through := s.through ++ [⟨k, h.addr, .read h.count, none⟩] }

def closing (s : State) : State := { s with windows := s.windows.set 0 { s.windows[0] with state := .closing } }

/-- A trailer entry for slot 1. -/
def slotEntry : Entry := ⟨.trailer, 0x1108, [quad, quad], some u1, true⟩

/-- One through-transaction of a taken request waits. -/
def withThrough (x : Through) (s : State) : State :=
  { s with through := [x], active := [⟨x.initiator, [], 1, false, false, false⟩] }

def readThrough : Through := ⟨0, 0x2000, .read 2, none⟩
def record1 : OverrideRecord := ⟨u1, 0x1088, 128, 3, 300, 2, .none⟩
def overThrough : Through := ⟨0, 0x1088, .write [beat], some record1⟩

/-- One issued request is unanswered. -/
def withIssued (x : Issued) (s : State) : State := { s with issued := [x] }

/-- A fold of the staged pass of unit 1 in UPDATING. -/
def updating (s : State) : State :=
  { withLane (withContext (context .folding 7) s) 1 ⟨none, none, .staged image, .free, none⟩ with
    fold := some ⟨pass1, .updating 0⟩ }

/-- A search for unit 1. -/
def searching (cands : List Nat) (syn : BitVec 32) (n : Nat) (s : State) : State :=
  { withContext (context .repairing n) s with repair := some ⟨0, u1, .searching cands syn 0⟩ }

/-- A drain posting of unit 1 with one place left in the queue. -/
def feeding (steps : List PostStep) (s : State) : State :=
  { withContext (context .draining 3) s with
    queue := List.replicate 15 filler, postings := [⟨.drain 0, some u1, steps⟩] }

/-- The last step of an override posting. -/
def noticing (s : State) : State := { s with postings := [⟨.override record1, some u1, [.notice]⟩] }

def ringOn (s : State) : State := { s with ring := ⟨0x8000, 0x8040, true, 0x8010, 0x8030, 255, []⟩ }
def ringFull (s : State) : State := { s with ring := ⟨0x8000, 0x8020, true, 0x8010, 0x8000, 255, []⟩ }

/-- Initiator 1 is stalled: both its buffers STAGED, two beats waiting, a core reset due at the frame's end. -/
def stalled : State :=
  { busyFold (withLane opened 1 ⟨none, none, .staged image, .staged image, none⟩) with
    active := [⟨1, classifyBeats opened.windows 1 0x1088 [beat, beat], 0, false, false, true⟩]
    mselLow := true
    frame := some { frame with coreReset := true } }

/-- Window 1 OFF with the profile, window 0 ACTIVE at 0x1000, window 2 ACTIVE at 0x2000, the ring at 0x8000. -/
def openable (p : Profile) : State :=
  framed { ringOn opened with
    windows := (opened.windows.set 1 { Window.reset with profile := p }).set 2 { window0 with profile := { p128 with base := 0x2000 } } }

/-- The outcome is this next state. -/
def gives (o : Host.Outcome State Fault Refusal) (t : State) : Bool :=
  match o with
  | .next u => u == t
  | .fault _ => false
  | .refused _ => false

/-- What the outcome's next state says under `f`. -/
def after {α : Type} (o : Host.Outcome State Fault Refusal) (f : State → α) : Option α :=
  match o with
  | .next u => some (f u)
  | .fault _ => none
  | .refused _ => none

/-! ### From computed truth values to the forms of Safety -/

theorem still_of (s : State)
    (h : s.atOnce.isNone = true ∧ (∀ a ∈ s.active, a.waiting = []) ∧ s.testDue = false) : s.Still where
  quiet := Option.isNone_iff_eq_none.mp h.1
  waiting := h.2.1
  testDue := h.2.2

theorem calm_of (s : State)
    (h : ((∀ a ∈ s.active, a.waiting = []) ∧ (∀ w : Fin 8, s.windows[w].state ≠ .closing) ∧ ∀ k : Fin 4, s.holds[k] = none)
      ∧ s.postings = [] ∧ s.ring.backlog = [] ∧ s.repairQueue = [] ∧ s.testDue = false) : s.Calm where
  waiting := h.1.1
  postings := h.2.1
  closing := h.1.2.1
  backlog := h.2.2.1
  repairQueue := h.2.2.2.1
  holds := h.1.2.2
  testDue := h.2.2.2.2

theorem takes_of (s : State) (r : Request) (h : s.run = .ready ∧ s.busyInitiator r.initiator = false ∧ r.wf = true) :
    s.Takes r := ⟨h.1, h.2.1, h.2.2⟩

theorem distinct_of (s : State)
    (h : ∀ i j : Fin 32, i = j ∨ s.contexts[i] = none ∨ s.contexts[i].map Context.uid ≠ s.contexts[j].map Context.uid) :
    s.UnitsDistinct := by
  intro i j c d hi hj hu
  rcases h i j with h | h | h
  · exact h
  · rw [hi] at h; cases h
  · rw [hi, hj] at h; exact absurd (congrArg some hu) h

/-! ### WellFormed refuses what no command carries (R1, R174, R175) -/

theorem test_misaligned_address_refused : (Instr.requestTake ⟨0, 0x1001, .read 1⟩).wf = false := by decide
theorem test_no_beats_refused : (Instr.requestTake ⟨0, 0x1000, .write []⟩).wf = false := by decide
theorem test_seventeen_beats_refused : (Instr.requestTake ⟨0, 0x1000, .read 17⟩).wf = false := by decide
theorem test_sixteen_beats_allowed : (Instr.requestTake ⟨0, 0x1000, .read 16⟩).wf = true := by decide
theorem test_seventeen_answer_beats_refused : (Instr.throughResponse .okay (List.replicate 17 quad)).wf = false := by decide
theorem test_badcmd_of_known_code_refused : (Instr.badcmd 0x3F).wf = false := by decide
theorem test_badcmd_of_unknown_code_allowed : (Instr.badcmd 0x3E).wf = true := by decide

/-- No row gives bits. -/
theorem test_no_word_spells_a_command : decodeTableWord 16 0x0102 = none := by decide

/-! ### The spec's own numbers -/

def nineBytes : List Byte := [0x31, 0x32, 0x33, 0x34, 0x35, 0x36, 0x37, 0x38, 0x39]

theorem test_crc16_of_nine_bytes : checkValue .crc16 0xFFFF (bytesBits nineBytes) = 0x29B1 := by decide +kernel
theorem test_crc32_of_nine_bytes : checkValue .crc32 0xFFFFFFFF (bytesBits nineBytes) = 0x0376E6E7 := by decide +kernel

/-- The contributions of the Repair Engine chapter's examples. -/
theorem test_contributions : [1036, 1021, 1022, 1023, 1039, 1019].map (contribution p128)
    = [0x0008, 0x4084, 0x2042, 0x1021, 0x0001, 0x1231] := by decide +kernel

theorem test_unique_pair : search p128 [1036, 1021, 1022, 1023, 1039] 0x3063 = (.found, [1022, 1023]) := by decide +kernel
/-- Five single positions and ten pairs are examined for the first, four and six for the second (R112). -/
theorem test_search_lengths : searchLength p128 [1036, 1021, 1022, 1023, 1039] 0x3063 = 15
    ∧ searchLength p128 [1030, 1019, 1023, 1035] 0x0210 = 10 := by decide +kernel

theorem test_two_pairs : search p128 [1030, 1019, 1023, 1035] 0x0210 = (.ambiguous, []) := by decide +kernel

/-- The notice of the example in 11.2. -/
theorem test_notice_bytes : (Notice.mk ⟨4, 60⟩ .repaired 3 5 [1022, 1023] .found 1).bytes 0x11
    = [0x3C, 0x00, 0x04, 0x03, 0x03, 0x05, 0x02, 0x11, 0xFE, 0x03, 0xFF, 0x03, 0xFF, 0xFF, 0x01, 0x01] := by decide

theorem test_verdict_word : verdictWord .repaired 3 5 2 = ⟨0x03, 0x03, 0x05, 0x02⟩ := by decide
theorem test_verdict_word_saturates : verdictWord .opened 1 4112 0 = ⟨0x01, 0x01, 0xFF, 0x00⟩ := by decide

/-- Unit 7's slot of the first worked sequence; the last slot of the diskette image of 2.2. -/
theorem test_slot_addresses :
    { Profile.default with base := 0x00200000 }.slotAddr 7 = 0x00200E38
    ∧ { Profile.default with base := 0x01000000 }.slotAddr 2879 = 0x0116D7F8 := by decide

theorem test_granule_counts : { p128 with sizeCode := 5, checkKind := .crc32 }.granuleCount = 33
    ∧ { p128 with sizeCode := 4, checkKind := .crc32 }.granuleCount = 17 ∧ { p128 with sizeCode := 2 }.granuleCount = 5 := by
  decide

/-- Window 1 ACTIVE and window 3 CLOSING make the window-state number 0x0084 (11.3). -/
theorem test_window_state_number :
    { isReady with windows := (isReady.windows.set 1 window0).set 3 { window0 with state := .closing } }.stateNumber
      = 0x0084 := by decide +kernel

/-- READ-STATUS just after a core reset (11.3). -/
theorem test_status_after_core_reset :
    after (exec .readStatus (framed { isReady with resetCause := .core })) (fun t => (t.frame.bind Frame.reply).map Reply.bytes)
      = some (some [0, 0, 0, 0, 0x00, 0x01, 0, 0, 0, 0, 0, 2]) := by decide +kernel

/-- The status byte 0x93 of the unit query of chapter 10: ATTN, repair busy, last result refused, reset since. -/
theorem test_status_byte :
    { searching [1] 3 3 isReady with flags := 1, enables := 1, lastRefused := true, resetSince := true }.statusByte = 0x93 := by
  decide +kernel

/-- Bytes out of the frame: status, argument bytes 0x00, result, data, then 0x00 (R170). -/
theorem test_frame_bytes :
    (List.range 6).map { frame with status := 0x93, reply := some ⟨2, .badArg, [7]⟩ }.outByte = [0x93, 0, 0, 3, 7, 0] := by
  decide

/-- A pass of weight 2 against a tally of -2 ties and keeps the bit; the tally stops at 7 (R88, R89). -/
theorem test_cell_update : Cell.update 2 ⟨-2, false⟩ true = ⟨0, false⟩ ∧ Cell.update 2 ⟨6, true⟩ true = ⟨7, true⟩
    ∧ Cell.update 1 ⟨0, true⟩ false = ⟨-1, false⟩ := by decide

/-- A burst across the end of a slot: the last beat of slot 0 is its verdict word, the next lies in slot 1 (R6). -/
theorem test_classify :
    classifyBeat opened.windows 1 0x1084 = .slot u0 132 .verdict true false
    ∧ classifyBeat opened.windows 0 0x1088 = .slot u1 0 .data false false
    ∧ classifyBeat opened.windows 1 0x1220 = .outside ∧ classifyBeat opened.windows 1 0x0FFC = .outside := by decide +kernel

/-- A read that ends at a slot's first byte does not overlap it; across the top of the address space it wraps (R143). -/
theorem test_overlap : bytesOverlap 0x1084 4 0x1088 4 = false ∧ bytesOverlap 0x1084 8 0x1088 4 = true
    ∧ bytesOverlap 0xFFFFFFFC 8 0 4 = true := by decide +kernel

/-! ### One step of some commands -/

theorem test_step_takes_the_front :
    gives (step { State.reset with pending := [.timebaseTick, .ready] })
      { State.reset with run := .recovering 1, pending := [.ready] } = true := by decide +kernel

/-- The completing beat of a pass: it joins the fold queue, is taken at once and admitted (12, first sequence). -/
theorem test_completed_pass_is_taken_at_once :
    after (exec (.requestTake (oneBeat 1 0x1108 beat)) (fillingAt 128 (some 9) opened))
      (fun t => (t.foldQueue, t.fold, t.freeList.length, t.contexts[0].map Context.granules))
      = some ([], some ⟨pass1, .updating 0⟩, 254, some [0, 1]) := by decide +kernel

/-- The settle evaluation of a first pass posts every chunk and the trailer, and the fold is complete at once. -/
theorem test_settle_evaluation :
    after (exec .settleEvaluation { updating opened with
        contexts := opened.contexts.set 0 (some (Context.admitted u1 [0, 1])) })
      (fun t => t.fold == none && t.queue.map Entry.kind == [.chunk, .chunk, .trailer]
        && t.contexts[0].map (fun c => (c.state, c.passes, c.outstanding, c.weak)) == some (.opened, 1, 3, 1040))
      = some true := by decide +kernel

/-- The grant of the last entry of a DRAINING context releases it; the CLOSING window's drain ends (12, third sequence). -/
theorem test_last_grant_ends_the_drain :
    after (exec .grant (closing { withContext { context .draining 3 with outstanding := 1 } opened with queue := [slotEntry] }))
      (fun t => (t.contexts[0], t.windows[0].state, t.flag .closed, t.freeList.length))
      = some (none, .off, true, 256) := by decide +kernel

theorem test_end_of_searching :
    after (exec .endOfSearching (searching [1036, 1021, 1022, 1023, 1039] 0x3063 3 opened))
      (fun t => t.repair == none && t.queue.map Entry.kind == [.chunk, .trailer]
        && t.contexts[0].map (fun c => (c.state, c.flips, c.lastRepair)) == some (.draining, [1022, 1023], .found))
      = some true := by decide +kernel

/-- An override taken during POSTING: chunk removed, fold stopped, context released (12, fifth sequence). -/
theorem test_override_races_a_fold :
    after (exec (.requestTake ⟨0, 0x1088, .write [beat]⟩)
        { withContext (context .draining 3) (staged opened) with
          foldQueue := [], fold := some ⟨pass1, .posting 0 .good⟩
          queue := List.replicate 15 filler ++ [{ slotEntry with kind := .chunk }]
          postings := [⟨.fold 0 .good, some u1, [.trailer, .notice]⟩] })
      (fun t => t.queue.length == 15 && t.postings == [] && t.fold == none && t.contexts[0] == none
        && t.windows[0].counters.overrides == 1 && t.windows[0].settled == [1])
      = some true := by decide +kernel

/-- RING-CONSUMED makes room and the backlog head moves into the ring at once (R162). -/
theorem test_ring_consumed_moves_the_backlog :
    after (exec (.ringConsumed 0x8010) (framed { ringFull opened with
        ring := { (ringFull opened).ring with backlog := [⟨u1, .good, 2, 0, [], .none, 1⟩] } }))
      (fun t => (t.queue.map Entry.addr, t.ring.write, t.ring.sequence, t.ring.backlog))
      = some ([0x8010], 0x8000, 0, []) := by decide +kernel

theorem test_core_reset_frees_a_stalled_write :
    after (exec .frameEnd stalled) (fun t => (t.through, t.active, t.flags, t.resetCause))
      = some ([⟨1, 0x1088, .write [beat, beat], none⟩], [⟨1, [], 1, false, false, false⟩], 0x800, .core) := by decide +kernel

/-- A stalled write in a window that the next command abandons: the event that frees a buffer takes the pass-starting beat and
no later one; the abandon ends that pass and the later beat is forwarded (R49, first row; log 18). -/
def meeting : State :=
  { framed stalled with
    fold := some ⟨⟨1, 0, u0⟩, .raw false⟩
    postings := [⟨.raw ⟨1, 0, u0⟩ false, some u0, [.notice]⟩]
    pending := [.abandonWindow 0] }

theorem test_freed_buffer_meets_an_abandon :
    after (exec .noticeAccepted meeting) (fun t => (t.lanes[1].filling, t.active.map (fun a => a.waiting.length)))
      = some (some ⟨u1, 4, 0⟩, [1])
    ∧ ((after (exec .noticeAccepted meeting) step).bind (fun o => after o (fun t => (t.lanes[1].filling, t.through, t.active))))
      = some (none, [⟨1, 0x108C, .write [beat], none⟩], [⟨1, [], 1, false, false, false⟩]) := by decide +kernel

/-- So it does when the edges of MCLK that wait bring the abandon's last two bits, after those of 0x14 0x00. -/
theorem test_freed_buffer_meets_an_abandon_by_bits :
    let f := { frame with shift := List.replicate 6 false, received := [0x14] }
    (after (exec .noticeAccepted { meeting with
        pending := [], mclk := [.rise false, .fall, .rise false], frame := some f })
      (fun t => (t.nextInFrame, t.active.map (fun a => a.waiting.length)))) = some (some (.abandonWindow 0), [1]) := by
  decide +kernel

/-- Without that command the later beats follow at once (12, second sequence). -/
theorem test_freed_buffer_lets_every_beat_go :
    after (exec .noticeAccepted { meeting with pending := [] }) (fun t => (t.lanes[1].filling, t.active, t.responses[1]))
      = some (some ⟨u1, 8, 0⟩, [], some ⟨.okay, []⟩) := by decide +kernel

/-- OPEN contexts of windows 0 and 2, both CLOSING: their drain postings begin in context slot order (R129). -/
theorem test_drains_begin_in_slot_order :
    let s := { withContext { context .opened 3 with uid := ⟨2, 1⟩ } (openable p128) with
      windows := ((openable p128).windows.set 0 { window0 with state := .closing }).set 2 { window0 with state := .closing } }
    ({ s with contexts := s.contexts.set 1 (some (context .opened 3)) }.atOnceDrain.map
      (fun t : State => t.postings.map Posting.owner)) = some [some ⟨2, 1⟩, some u1] := by decide +kernel

/-- An override of a unit without entries and postings tests no held read (R148). -/
theorem test_override_of_an_idle_unit_tests_no_hold :
    after (exec (.requestTake (oneBeat 0 0x1108 partBeat)) (withHold 1 ⟨0x8000, 1, 5, 5, none⟩ opened))
      (fun t => (t.windows[0].settled, t.holds[1])) = some ([1], some ⟨0x8000, 1, 5, 5, none⟩) := by decide +kernel

/-- The sixteen bits of a command without arguments and of one, most significant bit first (R169, R170). -/
theorem test_bits_of_a_command :
    ([false, false, false, false, false, false, true].foldl (fun f b => (Frame.clockIn f b).1) frame).clockIn false
      = ({ frame with received := [0x02] }, some .readFlags)
    ∧ ([false, false, false, false, true, false, true].foldl (fun f b => (Frame.clockIn f b).1)
        { frame with received := [0x12] }).clockIn true = ({ frame with received := [0x12, 0x0B] }, some (.openWindow 0x0B)) := by
  decide +kernel

/-- QUERY-UNIT of window 1, unit index 291: 0x20 0x01 0x23 0x01 (R170, R175). -/
theorem test_query_bytes : decodeFrame [0x20, 0x01, 0x23, 0x01] = some (.queryUnit 1 291)
    ∧ decodeFrame [0x3E] = some (.badcmd 0x3E) := by decide +kernel

/-! ### The hypotheses of the statements are met -/

theorem records_of (s : State) (h : s.fold = none) (h' : s.repair = none) : s.RecordsHeld := by
  constructor
  · intro pass i hf; rw [h] at hf; cases hf
  · intro i u c y n hr; rw [h'] at hr; cases hr

/-- A search one subset below its end, and at it. -/
theorem hyps_StepRunsTheFrontCommand :
    let cands := [1036, 1021, 1022, 1023, 1039]
    let s := searching cands 0x3063 3 opened
    (State.reset.pending = [] ∧ State.reset.mclk = [] ∧ State.reset.repair = none)
    ∧ s.pending = [] ∧ s.mclk = [] ∧ s.repair = some ⟨0, u1, .searching cands 0x3063 0⟩
    ∧ 14 < searchLength (s.profile u1.window) cands 0x3063 ∧ searchLength (s.profile u1.window) cands 0x3063 ≤ 15 := by
  decide +kernel

theorem hyps_EveryCommandKeepsTheQueue : exec .ready State.reset = .next State.reset := rfl

theorem hyps_WellFormedCommandsComplete :
    (Instr.grant.wf = true ∧ State.reset.RecordsHeld)
    ∧ Request.wf ⟨0, 0x1002, .read 1⟩ = false ∧ codeUnknown 0x3F = false
    ∧ exec .settleEvaluation { State.reset with fold := some ⟨pass1, .updating 0⟩ } = .fault .inconsistentRecord :=
  ⟨⟨by decide, records_of _ rfl rfl⟩, by decide, by decide, rfl⟩

theorem hyps_ReadyAtTheFourthTick :
    { State.reset with run := .recovering 3 }.run = .recovering 3
    ∧ { State.reset with run := .recovering 4 }.run = .recovering 4
    ∧ State.reset.run ≠ .ready ∧ Request.wf ⟨0, 0x1000, .read 1⟩ = true ∧ State.reset.mselLow = false := by decide

/-- Timers at 1, the last value before their expiry. -/
theorem hyps_TickCountsEveryTimer :
    let s := withHold 0 ⟨0x1088, 2, 3, 1, none⟩ (fillingAt 8 (some 1) opened)
    (s.run = .ready ∧ (∀ k : Fin 4, s.lanes[k].timer ≠ some 0)
      ∧ ∀ (k : Fin 4) (h : HoldRecord), s.holds[k] = some h → h.remaining ≠ 0)
    ∧ { State.reset with run := .held }.run = .held := by
  intro s
  refine ⟨⟨by decide, by decide +kernel, ?_⟩, rfl⟩
  intro k h hk
  have : ∀ j : Fin 4, s.holds[j] = none ∨ s.holds[j] = some ⟨0x1088, 2, 3, 1, none⟩ := by decide +kernel
  rcases this k with hn | hs
  · rw [hn] at hk; cases hk
  · rw [hs] at hk; cases hk; decide

theorem hyps_IdleExpiryTearsTheFillingPass :
    let s := fillingAt 8 (some 0) opened
    (s.Still ∧ s.lanes[(1 : Fin 4)].timer = some 0 ∧ s.lanes[(1 : Fin 4)].filling = some ⟨u1, 8, 0⟩
      ∧ s.windows[u1.window].state ≠ .closing) ∧ opened.lanes[(1 : Fin 4)].timer ≠ some 0 :=
  ⟨⟨still_of _ (by decide +kernel), by decide +kernel⟩, by decide +kernel⟩

/-- The last pass of a CLOSING window without contexts. -/
theorem hyps_IdleExpiryEndsTheDrain :
    let s := closing (fillingAt 8 (some 0) opened)
    s.Still ∧ s.lanes[(1 : Fin 4)].timer = some 0 ∧ s.lanes[(1 : Fin 4)].filling = some ⟨u1, 8, 0⟩
    ∧ s.windows[u1.window].state = .closing ∧ s.windowContexts 0 = [] ∧ (∀ j : Fin 4, j ≠ 1 → s.lanes[j].fills 0 = false)
    ∧ s.foldQueue = [] ∧ s.foldsIn 0 = false := ⟨still_of _ (by decide +kernel), by decide +kernel⟩

theorem hyps_HoldExpiryLetsTheReadGoStale :
    (withHold 0 ⟨0x1088, 2, 3, 0, some 0⟩ opened).holds[(0 : Fin 4)] = some ⟨0x1088, 2, 3, 0, some 0⟩
    ∧ (withHold 0 ⟨0x1088, 2, 3, 0, none⟩ opened).holds[(0 : Fin 4)] = some ⟨0x1088, 2, 3, 0, none⟩
    ∧ ∀ h : HoldRecord, opened.holds[(0 : Fin 4)] = some h → h.remaining ≠ 0 := by
  refine ⟨by decide +kernel, by decide +kernel, fun h hh => ?_⟩
  rw [show opened.holds[(0 : Fin 4)] = none by decide +kernel] at hh
  cases hh

theorem hyps_ReadWithoutOverlapIsForwardable :
    opened.Takes ⟨0, 0x1088, .read 16⟩ ∧ opened.overlaps 0x1088 16 = []
    ∧ Request.wf ⟨0, 0x1088, .read 1⟩ = true ∧ (withThrough readThrough opened).busyInitiator 0 = true :=
  ⟨takes_of _ _ (by decide +kernel), by decide +kernel⟩

/-- One item of each kind, the whole list in its order. -/
theorem test_hold_items :
    { feeding [.notice] (withThrough overThrough (updating opened)) with
      queue := [slotEntry], repair := some ⟨0, u1, .posting .repaired⟩
      postings := [⟨.drain 0, some u0, [.notice]⟩, ⟨.override record1, some u1, [.notice]⟩] }.holdItems.map
        (fun i : HoldItem => (i.addr, i.length, i.window))
      = [(0x1108, 8, some 0), (0x1088, 136, some 0), (0x1088, 136, some 0), (0x1000, 136, some 0), (0x1088, 136, some 0),
        (0x1088, 136, some 0)] := by decide +kernel

/-- The read's last byte is the overlapped entry's first; a RING item alone, then one of window 0. -/
theorem hyps_OverlappingReadIsHeld :
    let s := { opened with queue := [filler, slotEntry] }
    s.ProfilesLegal ∧ (s.Takes ⟨0, 0x1104, .read 2⟩ ∧ s.overlaps 0x1104 2 ≠ [])
    ∧ s.Takes ⟨0, 0x8000, .read 1⟩ ∧ s.overlaps 0x8000 1 ≠ [] :=
  ⟨by unfold State.ProfilesLegal; decide +kernel, ⟨takes_of _ _ (by decide +kernel), by decide +kernel⟩,
    takes_of _ _ (by decide +kernel), by decide +kernel⟩

/-- Sixteen beats from the first byte past window 0. -/
theorem hyps_OutsideWriteIsForwardedWhole :
    opened.Still ∧ opened.Takes ⟨1, 0x1220, .write (List.replicate 16 beat)⟩
    ∧ ∀ b ∈ classifyBeats opened.windows 1 0x1220 (List.replicate 16 beat), b.cls = .outside :=
  ⟨still_of _ (by decide +kernel), takes_of _ _ (by decide +kernel), by decide +kernel⟩

/-- A direct-class write from the last word below window 0 into slot 0, no byte of it enabled there; a covered last word. -/
theorem hyps_TwoPiecesAndCover :
    let noBeat : Beat := ⟨quad, ⟨false, false, false, false⟩⟩
    (opened.Still ∧ opened.Takes ⟨0, 0x0FFC, .write ([beat] ++ [noBeat])⟩
      ∧ (∀ b ∈ classifyBeats opened.windows 0 0x0FFC [beat], b.cls = .outside)
      ∧ ∀ b ∈ classifyBeats opened.windows 0 (0x0FFC + BitVec.ofNat 32 4) [noBeat],
        b.overrides = false ∧ b.cls = .slot u0 0 .data false false)
    ∧ opened.windows[(0 : Fin 8)].state ≠ .off ∧ (opened.profile 0).base.toNat ≤ (0x121C : Addr).toNat
    ∧ (0x121C : Addr).toNat < (opened.profile 0).base.toNat + (opened.profile 0).unitCount * ((opened.profile 0).dataSize + 8)
    ∧ ∀ v : Fin 8, v ≠ 0 → opened.windows[v].state = .off :=
  ⟨⟨still_of _ (by decide +kernel), takes_of _ _ (by decide +kernel), by decide +kernel⟩, by decide +kernel⟩

/-- A direct-class write of a whole verdict word: one piece in one slot that overrides nothing (R15, R16). -/
theorem hyps_DirectVerdictWordWrite :
    opened.Still ∧ opened.Takes ⟨0, 0x1084, .write [beat]⟩
    ∧ ∀ b ∈ classifyBeats opened.windows 0 0x1084 [beat], b.overrides = false ∧ b.cls = .slot u0 132 .verdict false false :=
  ⟨still_of _ (by decide +kernel), takes_of _ _ (by decide +kernel), by decide +kernel⟩

theorem hyps_VerdictWordBeatIsDiscarded :
    opened.Still ∧ opened.Takes (oneBeat 1 0x110C beat)
    ∧ classifyBeat opened.windows 1 0x110C = .slot u1 132 .verdict true false :=
  ⟨still_of _ (by decide +kernel), takes_of _ _ (by decide +kernel), by decide +kernel⟩

theorem hyps_PassStartTakesAFreeBuffer :
    let s := busyFold (withLane opened 1 ⟨none, some ⟨u0, 8⟩, .staged image, .free, none⟩)
    let r := fillingAt 8 (some 3) opened
    (beat.enables.all = true ∧ opened.Still ∧ opened.Takes (oneBeat 1 0x1088 beat)
      ∧ classifyBeat opened.windows 1 0x1088 = .slot u1 0 .data true false
      ∧ opened.lanes[(1 : Fin 4)].filling = none ∧ opened.lanes[(1 : Fin 4)].buffer0 = .free)
    ∧ (s.Still ∧ s.Takes (oneBeat 1 0x1088 beat) ∧ classifyBeat s.windows 1 0x1088 = .slot u1 0 .data true false
      ∧ s.lanes[(1 : Fin 4)].filling = none ∧ s.lanes[(1 : Fin 4)].buffer0 ≠ .free ∧ s.lanes[(1 : Fin 4)].buffer1 = .free)
    ∧ r.Still ∧ r.Takes (oneBeat 1 0x1088 beat) ∧ classifyBeat r.windows 1 0x1088 = .slot u1 0 .data true false
      ∧ r.lanes[(1 : Fin 4)].filling = some ⟨u1, 8, 0⟩ ∧ r.windows[u1.window].state ≠ .closing :=
  ⟨⟨by decide, still_of _ (by decide +kernel), takes_of _ _ (by decide +kernel), by decide +kernel⟩,
    ⟨still_of _ (by decide +kernel), takes_of _ _ (by decide +kernel), by decide +kernel⟩,
    still_of _ (by decide +kernel), takes_of _ _ (by decide +kernel), by decide +kernel⟩

/-- A filling pass of unit 0 in buffer 1, buffer 0 FREE or STAGED, torn by an offset-0 beat of unit 1: with all enables on, with
one off, and in a CLOSING window that has a fold under way. -/
def fillingInBuffer1 (buffer0 : Buffer) (s : State) : State :=
  busyFold (withLane s 1 ⟨some ⟨u0, 8, 1⟩, none, buffer0, .filling [1, 2, 3, 4], some 3⟩)

theorem hyps_OffsetZeroBeatTearsTheFillingPass :
    let s := fillingInBuffer1 .free opened
    let t := fillingInBuffer1 (.staged image) opened
    let c := closing s
    (s.Still ∧ s.Takes (oneBeat 1 0x1088 beat) ∧ s.Takes (oneBeat 1 0x1088 partBeat)
      ∧ classifyBeat s.windows 1 0x1088 = .slot u1 0 .data true false
      ∧ s.lanes[(1 : Fin 4)].filling = some ⟨u0, 8, 1⟩ ∧ s.windows[u0.window].state ≠ .closing
      ∧ s.lanes[(1 : Fin 4)].buffer0 = .free)
    ∧ (t.Still ∧ t.lanes[(1 : Fin 4)].buffer0 ≠ .free)
    ∧ c.Still ∧ c.Takes (oneBeat 1 0x1088 beat) ∧ classifyBeat c.windows 1 0x1088 = .slot u1 0 .data true true
      ∧ c.lanes[(1 : Fin 4)].filling = some ⟨u0, 8, 1⟩ ∧ c.foldsIn u0.window = true :=
  ⟨⟨still_of _ (by decide +kernel), takes_of _ _ (by decide +kernel), takes_of _ _ (by decide +kernel), by decide +kernel⟩,
    ⟨still_of _ (by decide +kernel), by decide +kernel⟩,
    still_of _ (by decide +kernel), takes_of _ _ (by decide +kernel), by decide +kernel⟩

/-- The last data beat, the completing beat at offset D, and the completing beat with an enable off. -/
theorem hyps_BeatAtTheExpectedOffset :
    let s := fillingAt 124 (some 3) opened
    let t := busyFold (fillingAt 128 (some 3) opened)
    (s.Still ∧ s.Takes (oneBeat 1 0x1104 beat) ∧ classifyBeat s.windows 1 0x1104 = .slot u1 124 .data true false
      ∧ s.lanes[(1 : Fin 4)].filling = some ⟨u1, 124, 0⟩ ∧ beat.enables.all = true ∧ 124 ≠ (s.profile 0).dataSize)
    ∧ (t.Still ∧ t.Takes (oneBeat 1 0x1108 beat) ∧ classifyBeat t.windows 1 0x1108 = .slot u1 128 .check true false
      ∧ t.lanes[(1 : Fin 4)].filling = some ⟨u1, 128, 0⟩ ∧ 128 = (t.profile 0).dataSize ∧ t.fold ≠ none)
    ∧ t.Takes (oneBeat 1 0x1108 partBeat) ∧ partBeat.enables.all = false ∧ t.windows[u1.window].state ≠ .closing :=
  ⟨⟨still_of _ (by decide +kernel), takes_of _ _ (by decide +kernel), by decide +kernel⟩,
    ⟨still_of _ (by decide +kernel), takes_of _ _ (by decide +kernel), by decide +kernel⟩,
    takes_of _ _ (by decide +kernel), by decide +kernel⟩

/-- The completing beat beside an idle fold engine, with granules and slots free. -/
theorem hyps_CompletedPassIsTakenAtOnce :
    let t := fillingAt 128 (some 3) opened
    t.Still ∧ t.Takes (oneBeat 1 0x1108 beat) ∧ classifyBeat t.windows 1 0x1108 = .slot u1 128 .check true false
    ∧ t.lanes[(1 : Fin 4)].filling = some ⟨u1, 128, 0⟩ ∧ 128 = (t.profile 0).dataSize ∧ t.fold = none
    ∧ t.isSettled u1 = false ∧ t.findContext u1 = none ∧ t.contexts[(0 : Fin 32)] = none
    ∧ (∀ j : Fin 32, j < 0 → t.contexts[j] ≠ none) ∧ (t.profile 0).granuleCount ≤ t.freeList.length :=
  ⟨still_of _ (by decide +kernel), takes_of _ _ (by decide +kernel), by decide +kernel⟩

/-- A beat one step past the expected offset; an offset-0 beat with an enable off on a lane in a late run. -/
theorem hyps_OrphanBeatCounts :
    let s := fillingAt 124 (some 3) opened
    let t := withLane opened 1 ⟨none, some ⟨u0, 8⟩, .free, .free, none⟩
    (s.Still ∧ s.Takes (oneBeat 1 0x1108 beat) ∧ classifyBeat s.windows 1 0x1108 = .slot u1 128 .check true false
      ∧ (∀ f, s.lanes[(1 : Fin 4)].filling = some f → ¬ (f.uid = u1 ∧ f.expected = 128))
      ∧ s.lanes[(1 : Fin 4)].lateRun ≠ some ⟨u1, 128⟩)
    ∧ t.Still ∧ t.Takes (oneBeat 1 0x1088 partBeat) ∧ classifyBeat t.windows 1 0x1088 = .slot u1 0 .data true false
      ∧ partBeat.enables.all = false ∧ t.lanes[(1 : Fin 4)].filling = none := by
  refine ⟨⟨still_of _ (by decide +kernel), takes_of _ _ (by decide +kernel), by decide +kernel, ?_, by decide +kernel⟩,
    still_of _ (by decide +kernel), takes_of _ _ (by decide +kernel), by decide +kernel⟩
  intro f hf
  rw [show (fillingAt 124 (some 3) opened).lanes[(1 : Fin 4)].filling = some ⟨u1, 124, 0⟩ by decide +kernel] at hf
  cases hf
  decide

theorem hyps_StalledLaneWithholdsTheBeat :
    let s := busyFold (withLane opened 1 ⟨none, none, .staged image, .staged image, none⟩)
    s.Still ∧ s.Takes ⟨1, 0x1088, .write (beat :: [beat])⟩ ∧ classifyBeat s.windows 1 0x1088 = .slot u1 0 .data true false
    ∧ beat.enables.all = true ∧ s.lanes[(1 : Fin 4)].filling = none ∧ s.lanes[(1 : Fin 4)].buffer0 ≠ .free
    ∧ s.lanes[(1 : Fin 4)].buffer1 ≠ .free :=
  ⟨still_of _ (by decide +kernel), takes_of _ _ (by decide +kernel), by decide +kernel⟩

/-- An offset-0 beat with an enable off; then the beat at offset D, which ends the run. -/
theorem hyps_LatePassInAClosingWindow :
    let s := closing (busyFold (withContext (context .opened 3) opened))
    let t := withLane (closing (withQueue 16 { withContext (context .draining 3) opened with
      postings := [⟨.drain 0, some u1, [.trailer, .notice]⟩] })) 1 ⟨none, some ⟨u1, 128⟩, .free, .free, none⟩
    (s.Still ∧ s.Takes (oneBeat 1 0x1088 partBeat) ∧ classifyBeat s.windows 1 0x1088 = .slot u1 0 .data true true
      ∧ s.lanes[(1 : Fin 4)].filling = none)
    ∧ t.Still ∧ t.Takes (oneBeat 1 0x1108 beat) ∧ classifyBeat t.windows 1 0x1108 = .slot u1 128 .check true true
      ∧ t.lanes[(1 : Fin 4)].filling = none ∧ t.lanes[(1 : Fin 4)].lateRun = some ⟨u1, 128⟩ :=
  ⟨⟨still_of _ (by decide +kernel), takes_of _ _ (by decide +kernel), by decide +kernel⟩,
    still_of _ (by decide +kernel), takes_of _ _ (by decide +kernel), by decide +kernel⟩

/-- A unit in a fold, a unit in a repair, a unit without a context. -/
theorem hyps_OverrideWithdrawsTheUnit :
    let s := updating opened
    let t := searching [1] 3 3 opened
    (s.UnitsDistinct ∧ s.fold = some ⟨pass1, .updating 0⟩ ∧ pass1.uid = u1 ∧ s.repair = none
      ∧ s.findContext u1 = some 0 ∧ s.contexts[(0 : Fin 32)] = some (context .folding 7))
    ∧ (t.UnitsDistinct ∧ t.fold = none ∧ t.repair = some ⟨0, u1, .searching [1] 3 0⟩)
    ∧ s.findContext u0 = none :=
  ⟨⟨distinct_of _ (by decide +kernel), by decide +kernel⟩, ⟨distinct_of _ (by decide +kernel), by decide +kernel⟩,
    by decide +kernel⟩

theorem hyps_DirectWriteOverridesAnIdleUnit :
    opened.Still ∧ opened.Takes (oneBeat 0 0x1108 partBeat)
    ∧ classifyBeat opened.windows 0 0x1108 = .slot u1 128 .check false false ∧ partBeat.enables.any = true
    ∧ opened.findContext u1 = none
    ∧ (∀ e ∈ opened.queue, e.owner ≠ some u1) ∧ (∀ x ∈ opened.postings, x.owner ≠ some u1)
    ∧ opened.fold = none ∧ opened.repair = none :=
  ⟨still_of _ (by decide +kernel), takes_of _ _ (by decide +kernel), by decide +kernel⟩

/-- No candidate; each reason for the queue head at its boundary; each case of the through candidate at its boundary. -/
theorem hyps_ArbiterChoosesByTheTable :
    let s := withThrough readThrough opened
    (opened.run ≠ .held ∧ opened.throughCandidate = none ∧ opened.queue = [])
    ∧ ((withQueue 1 opened).queue = [filler] ∧ (withQueue 1 opened).throughCandidate = none)
    ∧ (withHold 1 ⟨0x8000, 1, 5, 5, none⟩ (withQueue 1 s)).holds[(1 : Fin 4)] ≠ none
    ∧ 12 ≤ (withQueue 12 s).queue.length
    ∧ { withQueue 1 s with runCount := 8 }.runCount = 8
    ∧ (s.throughCandidate = some (readThrough, []) ∧ s.queue = [])
    ∧ (withQueue 11 s).throughCandidate = some (readThrough, []) ∧ (∀ k : Fin 4, (withQueue 11 s).holds[k] = none)
    ∧ (withQueue 11 s).queue.length < 12 ∧ { withQueue 11 s with runCount := 7 }.runCount ≠ 8 := by decide +kernel

/-- An entry not counted; a counted one with more outstanding; the last one of a DRAINING context. -/
theorem hyps_GrantOfTheQueueHead :
    let f := withThrough readThrough (withQueue 12 opened)
    let s := fun n => { withContext { context .draining 3 with outstanding := n } opened with queue := [slotEntry] }
    (f.run ≠ .held ∧ f.Still ∧ f.postings = [] ∧ (∀ k : Fin 4, f.holds[k] = none)
      ∧ f.queue = filler :: List.replicate 11 filler ∧ 12 ≤ f.queue.length ∧ filler.counted = false)
    ∧ ((s 2).run ≠ .held ∧ (s 2).Still ∧ (s 2).postings = [] ∧ (∀ k : Fin 4, (s 2).holds[k] = none)
      ∧ (s 2).queue = [slotEntry] ∧ (s 2).throughCandidate = none ∧ slotEntry.counted = true ∧ slotEntry.owner = some u1
      ∧ (s 2).findContext u1 = some 0 ∧ (s 2).contexts[(0 : Fin 32)] = some { context .draining 3 with outstanding := 2 })
    ∧ (s 1).Still ∧ (s 1).findContext u1 = some 0
      ∧ (s 1).contexts[(0 : Fin 32)] = some { context .draining 3 with outstanding := 1 }
      ∧ (s 1).windows[u1.window].state ≠ .closing :=
  ⟨⟨by decide +kernel, still_of _ (by decide +kernel), by decide +kernel⟩,
    ⟨by decide +kernel, still_of _ (by decide +kernel), by decide +kernel⟩,
    still_of _ (by decide +kernel), by decide +kernel⟩

/-- The last context of a CLOSING window. -/
theorem hyps_GrantEndsTheDrain :
    let s := closing { withContext { context .draining 3 with outstanding := 1 } opened with queue := [slotEntry] }
    s.run ≠ .held ∧ s.Still ∧ s.postings = [] ∧ (∀ k : Fin 4, s.holds[k] = none) ∧ s.throughCandidate = none
    ∧ s.contexts[(0 : Fin 32)] = some { context .draining 3 with outstanding := 1 }
    ∧ s.windows[u1.window].state = .closing ∧ s.passQuiet u1.window = true ∧ s.windowContexts u1.window = [0] :=
  ⟨by decide +kernel, still_of _ (by decide +kernel), by decide +kernel⟩

/-- A held read whose only counted overlap is the head, and one that overlaps the entry behind it too. -/
theorem hyps_GrantReleasesAHeldRead :
    let s := withHold 1 ⟨0x8000, 1, 5, 5, none⟩ (withQueue 1 opened)
    let t := withHold 1 ⟨0x1104, 2, 5, 5, some 0⟩
      { withContext { context .draining 3 with outstanding := 2 } opened with queue := [slotEntry, slotEntry] }
    (s.run ≠ .held ∧ s.Still ∧ s.queue = [filler] ∧ filler.counted = false ∧ { s with queue := [] }.overlaps 0x8000 1 = []
      ∧ after (exec .grant s) (fun u => u.holds[1]) = some none)
    ∧ t.run ≠ .held ∧ t.Still ∧ t.findContext u1 = some 0 ∧ { t with queue := [slotEntry] }.overlaps 0x1104 2 ≠ []
      ∧ after (exec .grant t) (fun u => u.holds[1].isSome) = some true :=
  ⟨⟨by decide +kernel, still_of _ (by decide +kernel), by decide +kernel⟩,
    by decide +kernel, still_of _ (by decide +kernel), by decide +kernel⟩

theorem hyps_GrantOfAThroughTransaction :
    let s := withThrough readThrough (withQueue 11 opened)
    s.run ≠ .held ∧ s.throughCandidate = some (readThrough, []) ∧ readThrough.record = none
    ∧ (∀ k : Fin 4, s.holds[k] = none) ∧ s.queue.length < 12 ∧ s.runCount ≠ 8 := by decide +kernel

/-- A held read stands before the candidate. -/
theorem test_candidate_behind_a_held_read :
    { withHold 1 ⟨0x8000, 1, 5, 5, none⟩ opened with
      through := [⟨1, 0x8000, .read 1, none⟩, readThrough] }.throughCandidate
      = some (readThrough, [⟨1, 0x8000, .read 1, none⟩]) := by decide +kernel

theorem hyps_OverridePostingFollowsItsPiece :
    let s := withThrough overThrough (withQueue 11 opened)
    s.run ≠ .held ∧ s.Still ∧ s.postings = [] ∧ (∀ k : Fin 4, s.holds[k] = none) ∧ s.ring.enabled = false
    ∧ s.throughCandidate = some (overThrough, []) ∧ overThrough.record = some record1 ∧ s.queue.length < 12
    ∧ s.runCount ≠ 8 :=
  ⟨by decide +kernel, still_of _ (by decide +kernel), by decide +kernel⟩

theorem hyps_ReadAnswerIsRouted :
    let s := withThrough readThrough (withIssued ⟨.initiator 0, 0x2000, .read 2⟩ opened)
    takeFirst Issued.isThrough s.issued = some (⟨.initiator 0, 0x2000, .read 2⟩, [])
    ∧ s.active.find? (fun y => y.initiator == 0) = some ⟨0, [], 1, false, false, false⟩ := by decide +kernel

/-- The last piece; a piece of a write with another piece in flight; one of a stalled write. -/
theorem hyps_WriteAnswersAreCombined :
    let w : Issued := ⟨.initiator 1, 0x1088, .write [beat]⟩
    let s := fun n => { withIssued w opened with active := [⟨1, [], n, false, false, false⟩] }
    (takeFirst Issued.isThrough (s 1).issued = some (w, [])
      ∧ (s 1).active.find? (fun y => y.initiator == 1) = some ⟨1, [], 1, false, false, false⟩)
    ∧ (s 2).active.find? (fun y => y.initiator == 1) = some ⟨1, [], 2, false, false, false⟩
    ∧ ∃ x, stalled.active.find? (fun y => y.initiator == 1) = some x ∧ x.waiting ≠ [] := by
  refine ⟨by decide +kernel, by decide +kernel, ⟨1, classifyBeats opened.windows 1 0x1088 [beat, beat], 0, false, false, true⟩, ?_⟩
  decide +kernel

theorem hyps_WriteBackAnswerFillsTheFaultRecord :
    let w : Issued := ⟨.writeBack .trailer, 0x1108, .write [beat]⟩
    takeFirst Issued.isWriteBack (withIssued w opened).issued = some (w, [])
    ∧ opened.faultRecord = none ∧ { opened with faultRecord := some ⟨0x1000, .chunk⟩ }.faultRecord ≠ none
    ∧ takeFirst Issued.isWriteBack opened.issued = none := by decide +kernel

/-- A SETTLED unit; a context exactly at the pass limit. -/
theorem hyps_LatePassAtFoldStart :
    let s := staged { opened with windows := opened.windows.set 0 { window0 with settled := [1] } }
    let t := staged (withContext (context .opened 8) opened)
    (s.Calm ∧ s.fold = none ∧ s.foldQueue = [pass1] ∧ s.isSettled pass1.uid = true)
    ∧ t.Calm ∧ t.fold = none ∧ t.foldQueue = [pass1] ∧ t.findContext pass1.uid = some 0
      ∧ t.contexts[(0 : Fin 32)] = some (context .opened 8) ∧ (t.profile pass1.uid.window).passLimit ≤ 8 :=
  ⟨⟨calm_of _ (by decide +kernel), by decide +kernel⟩, calm_of _ (by decide +kernel), by decide +kernel⟩

/-- Exactly as many free granules as the unit needs, and slot 1 the lowest free one. -/
theorem hyps_AdmissionAtFoldStart :
    let s := { staged (withContext { context .opened 1 with uid := u0 } opened) with freeList := [9, 4] }
    s.Calm ∧ s.fold = none ∧ s.foldQueue = [pass1] ∧ s.isSettled pass1.uid = false ∧ s.findContext pass1.uid = none
    ∧ s.contexts[(1 : Fin 32)] = none ∧ (∀ j : Fin 32, j < 1 → s.contexts[j] ≠ none)
    ∧ (s.profile pass1.uid.window).granuleCount ≤ s.freeList.length ∧ VotesWf s.votes := by
  intro s
  have found : s.fold = none ∧ s.foldQueue = [pass1] ∧ s.isSettled pass1.uid = false ∧ s.findContext pass1.uid = none
    ∧ s.contexts[(1 : Fin 32)] = none ∧ (∀ j : Fin 32, j < 1 → s.contexts[j] ≠ none)
    ∧ (s.profile pass1.uid.window).granuleCount ≤ s.freeList.length := by decide +kernel
  obtain ⟨idle, queued, fresh, free⟩ := found
  exact ⟨calm_of _ (by decide +kernel), idle, queued, fresh, free.1, free.2.1, free.2.2.1, free.2.2.2,
    by constructor <;> decide⟩

/-- One granule too few; no free slot. -/
theorem hyps_DenialAtFoldStart :
    let s := { withQueue 16 (staged opened) with freeList := [9] }
    let t := { withQueue 16 (staged opened) with contexts := Vector.replicate 32 (some { context .opened 1 with uid := u0 }) }
    (s.Calm ∧ s.fold = none ∧ s.foldQueue = [pass1] ∧ s.isSettled pass1.uid = false ∧ s.findContext pass1.uid = none
      ∧ s.freeList.length < (s.profile pass1.uid.window).granuleCount ∧ s.queue.length = 16)
    ∧ t.Calm ∧ t.findContext pass1.uid = none ∧ ∀ j : Fin 32, t.contexts[j] ≠ none :=
  ⟨⟨calm_of _ (by decide +kernel), by decide +kernel⟩, calm_of _ (by decide +kernel), by decide +kernel⟩

/-- A unit that waits for repair, with one pass left below the limit; a unit whose search is cancelled. -/
theorem hyps_FoldStartOnAHeldContext :
    let s := { staged (withContext (context .repairWait 7) opened) with repairQueue := [0] }
    let t := staged (searching [1] 3 7 opened)
    ({ s with repairQueue := [] }.Calm ∧ (∀ j ∈ s.repairQueue, j = 0) ∧ s.fold = none ∧ s.foldQueue = [pass1]
      ∧ s.isSettled pass1.uid = false ∧ s.findContext pass1.uid = some 0
      ∧ s.contexts[(0 : Fin 32)] = some (context .repairWait 7) ∧ 7 < (s.profile pass1.uid.window).passLimit)
    ∧ { t with repairQueue := [] }.Calm ∧ t.findContext pass1.uid = some 0 ∧ t.repair = some ⟨0, u1, .searching [1] 3 0⟩ :=
  ⟨⟨calm_of _ (by decide +kernel), by decide +kernel⟩, calm_of _ (by decide +kernel), by decide +kernel⟩

theorem hyps_SettleEvaluationWritesTheOutcome :
    let s := withQueue 16 (updating opened)
    s.Calm ∧ s.fold = some ⟨pass1, .updating 0⟩ ∧ s.contexts[(0 : Fin 32)] = some (context .folding 7)
    ∧ s.queue.length = 16 :=
  ⟨calm_of _ (by decide +kernel), by decide +kernel⟩

/-- Every row of the two tables is met: M = 2, P = 8, K = 12. -/
theorem hyps_SettleOutcomeTables :
    let p := p128
    let q := { p128 with checkKind := .none }
    (q.checkKind = .none ∧ q.minPasses ≤ 2 ∧ ¬ (q.minPasses ≤ 8 ∧ (1 : Nat) = 0) ∧ q.passLimit ≤ 8 ∧ 7 < q.passLimit)
    ∧ p.checkKind ≠ .none ∧ p.minPasses ≤ 2 ∧ 1 < p.minPasses ∧ 12 ≤ p.candidateLimit ∧ p.candidateLimit < 13
    ∧ p.passLimit ≤ 8 ∧ 7 < p.passLimit ∧ { p with passLimit := 1 }.passLimit ≤ 1 := by decide

/-- A sum above, below and at each end of the range; two granules of 1040 tallied positions. -/
theorem hyps_FoldUpdatesTheTallies :
    (7 : Int) < 6 + 2 ∧ (-6 : Int) - 2 < -7 ∧ (-7 : Int) ≤ -6 - 1 ∧ (6 : Int) + 1 ≤ 7
    ∧ VotesWf ([] : List (Nat × List Cell)) ∧ [3, 1].Nodup ∧ [3, 1].length = p128.granuleCount
    ∧ (∀ g ∈ [3, 1], (readGranule g []).length = 1024) ∧ (List.replicate 1040 true).length = p128.tallied :=
  ⟨by decide, by decide, by decide, by decide, by constructor <;> decide, by decide, by decide, by decide +kernel,
    by decide +kernel⟩

theorem hyps_EntryTakesTheLastPlace :
    let s := feeding [.chunk 1, .trailer, .notice] opened
    let t := feeding [.trailer, .notice] (ringOn opened)
    ({ s with postings := [] }.Calm ∧ s.FoldSettled ∧ s.postings = [⟨.drain 0, some u1, [.chunk 1, .trailer, .notice]⟩]
      ∧ s.queue.length = 15 ∧ (Poster.drain 0).slot = some 0 ∧ s.contexts[(0 : Fin 32)] = some (context .draining 3)
      ∧ PostStep.trailer ≠ .notice)
    ∧ { t with postings := [] }.Calm ∧ t.FoldSettled ∧ t.postings = [⟨.drain 0, some u1, [.trailer, .notice]⟩]
      ∧ t.ring.enabled = true ∧ t.ring.full = false :=
  ⟨⟨calm_of _ (by decide +kernel), by unfold State.FoldSettled; decide +kernel, by decide +kernel⟩,
    calm_of _ (by decide +kernel), by unfold State.FoldSettled; decide +kernel, by decide +kernel⟩

/-- A fold posting of pass 1 in context slot 0, the repair engine busy with another window's unit. -/
def foldPosting (o : FoldOutcome) (steps : List PostStep) : State :=
  { updating opened with
    fold := some ⟨pass1, .posting 0 o⟩, postings := [⟨.fold 0 o, some u1, steps⟩]
    repair := some ⟨3, ⟨1, 0⟩, .searching [1] 3 0⟩ }

/-- The state after the trailer of an outcome that is not final: OPEN, and REPAIR. -/
def foldDone (o : FoldOutcome) : State :=
  { foldPosting o [.trailer] with
    queue := [⟨.trailer, 0x1108, [⟨0, 0, 0, 0⟩, ⟨1, 7, 0, 0⟩], some u1, true⟩]
    postings := [], fold := none
    lanes := opened.lanes.set 1 ⟨none, none, .free, .free, none⟩
    windows := opened.windows.set 0 { window0 with counters := { Counters.zero with passesFolded := 1 } }
    contexts := opened.contexts.set 0 (some { context (if o = .repair then .repairWait else .opened) 7 with outstanding := 1 })
    repairQueue := if o = .repair then [0] else [] }

theorem hyps_FoldCompletion :
    ((foldDone .opened).Still ∧ (foldDone .repair).Still)
    ∧ gives (exec .entryEntersQueue (foldPosting .opened [.trailer])) (foldDone .opened) = true
    ∧ gives (exec .entryEntersQueue (foldPosting .repair [.trailer])) (foldDone .repair) = true :=
  ⟨⟨still_of _ (by decide +kernel), still_of _ (by decide +kernel)⟩, by decide +kernel⟩

/-- A raw posting of the staged pass of lane 1. -/
def rawPosting (steps : List PostStep) (s : State) : State :=
  { staged s with
    foldQueue := [], fold := some ⟨pass1, .raw false⟩, postings := [⟨.raw pass1 false, some u1, steps⟩] }

theorem hyps_RawEntryTakesTheLastPlace :
    let s := rawPosting [.chunk 1, .trailer, .notice] (withQueue 15 opened)
    let t := rawPosting [.trailer, .notice] (ringOn (withQueue 15 opened))
    ({ s with postings := [] }.Calm ∧ s.FoldSettled ∧ s.queue.length = 15)
    ∧ { t with postings := [] }.Calm ∧ t.FoldSettled ∧ t.ring.enabled = true ∧ t.ring.full = false :=
  ⟨⟨calm_of _ (by decide +kernel), by unfold State.FoldSettled; decide +kernel, by decide +kernel⟩,
    calm_of _ (by decide +kernel), by unfold State.FoldSettled; decide +kernel, by decide +kernel⟩

/-- The five fates at their boundaries of queue room and backlog room; the three of the last step. -/
theorem hyps_NoticeFates :
    let note : Notice := ⟨u1, .good, 2, 0, [], .none, 1⟩
    let s := noticing opened
    let t := noticing (ringOn (withQueue 15 opened))
    let f := noticing (ringFull opened)
    (s.ring.enabled = false ∧ t.ring.enabled = true ∧ t.ring.backlog = [] ∧ t.ring.full = false ∧ t.queue.length < 16
      ∧ 16 ≤ (withQueue 16 t).queue.length ∧ f.ring.enabled = true ∧ f.ring.full = true ∧ f.ring.backlog.length < 8
      ∧ 8 ≤ { f.ring with backlog := List.replicate 8 note }.backlog.length)
    ∧ ({ s with postings := [] }.Calm ∧ s.FoldSettled ∧ s.postings = [⟨.override record1, some u1, [.notice]⟩])
    ∧ ({ t with postings := [] }.Calm ∧ t.FoldSettled ∧ t.postings = [⟨.override record1, some u1, [.notice]⟩])
    ∧ { f with postings := [] }.Calm ∧ f.FoldSettled ∧ f.postings = [⟨.override record1, some u1, [.notice]⟩] :=
  ⟨by decide +kernel,
    ⟨calm_of _ (by decide +kernel), by unfold State.FoldSettled; decide +kernel, by decide +kernel⟩,
    ⟨calm_of _ (by decide +kernel), by unfold State.FoldSettled; decide +kernel, by decide +kernel⟩,
    calm_of _ (by decide +kernel), by unfold State.FoldSettled; decide +kernel, by decide +kernel⟩

/-- The notice of each poster with the ring disabled, and that of an override dropped: what stands behind it is still. -/
theorem hyps_NoticeCompletesItsPosting :
    let note : Notice := ⟨u1, .good, 2, 0, [], .none, 1⟩
    let o := noticing opened
    let d := noticing { ringFull opened with ring := { (ringFull opened).ring with backlog := List.replicate 8 note } }
    let raw := rawPosting [.notice] opened
    let fold := { withContext (context .draining 7) (foldPosting .good [.notice]) with freeList := (List.range 256).drop 2 }
    let repair := { withContext (context .draining 3) opened with
      repair := some ⟨0, u1, .posting .repaired⟩, postings := [⟨.repair 0 .repaired, some u1, [.notice]⟩] }
    let drain := { withContext { context .draining 3 with outstanding := 1 } opened with
      postings := [⟨.drain 0, some u1, [.notice]⟩] }
    let idle := opened.lanes.set 1 ⟨none, none, .free, .free, none⟩
    let released := fun s : State => { s with
      postings := [], contexts := s.contexts.set 0 none, freeList := s.freeList ++ [0, 1] }
    ({ o with postings := [] }.Still ∧ o.acceptNotice note = some o)
    ∧ ({ d with postings := [], flags := 0xA00 }.Still ∧ d.acceptNotice note = some { d with flags := 0xA00 })
    ∧ ({ raw with postings := [], fold := none, lanes := idle }.Still ∧ raw.acceptNotice note = some raw)
    ∧ ({ released fold with fold := none, lanes := idle, windows := (foldDone .opened).windows }.Still
      ∧ fold.acceptNotice note = some fold)
    ∧ ({ released repair with repair := none }.Still ∧ repair.acceptNotice note = some repair)
    ∧ { drain with
        postings := [], contexts := drain.contexts.set 0 (some { context .draining 3 with outstanding := 1, posting := false })
      }.Still ∧ drain.acceptNotice note = some drain :=
  ⟨⟨still_of _ (by decide +kernel), by rfl⟩, ⟨still_of _ (by decide +kernel), by decide +kernel⟩,
    ⟨still_of _ (by decide +kernel), by rfl⟩, ⟨still_of _ (by decide +kernel), by rfl⟩,
    ⟨still_of _ (by decide +kernel), by rfl⟩, still_of _ (by decide +kernel), by rfl⟩

theorem hyps_RepairTakeStartsTheSearch :
    let s := { withContext (context .repairWait 3) opened with repairQueue := [0, 4] }
    { s with repairQueue := [] }.Calm ∧ s.FoldSettled ∧ s.repair = none ∧ s.repairQueue = [0, 4]
    ∧ s.contexts[(0 : Fin 32)] = some (context .repairWait 3) :=
  ⟨calm_of _ (by decide +kernel), by unfold State.FoldSettled; decide +kernel, by decide +kernel⟩

/-- NOMATCH one pass below the limit; AMBIGUOUS at the limit; FOUND. -/
theorem hyps_EndOfSearchingDecides :
    let s := searching [1036] 0x3063 7 opened
    let t := withQueue 16 (searching [1030, 1019, 1023, 1035] 0x0210 8 opened)
    let f := withQueue 16 (searching [1036, 1021, 1022, 1023, 1039] 0x3063 8 opened)
    (s.Calm ∧ s.FoldSettled ∧ s.repair = some ⟨0, u1, .searching [1036] 0x3063 0⟩
      ∧ s.contexts[(0 : Fin 32)] = some (context .repairing 7) ∧ (context .repairing 7).dirty = []
      ∧ (search p128 [1036] 0x3063).1 ≠ .found ∧ 7 < p128.passLimit)
    ∧ (t.Calm ∧ t.FoldSettled ∧ t.contexts[(0 : Fin 32)] = some (context .repairing 8)
      ∧ (search p128 [1030, 1019, 1023, 1035] 0x0210).1 ≠ .found ∧ p128.passLimit ≤ 8 ∧ t.queue.length = 16)
    ∧ f.Calm ∧ f.FoldSettled ∧ (search p128 [1036, 1021, 1022, 1023, 1039] 0x3063).1 = .found ∧ f.queue.length = 16 :=
  ⟨⟨calm_of _ (by decide +kernel), by unfold State.FoldSettled; decide +kernel, by decide +kernel⟩,
    ⟨calm_of _ (by decide +kernel), by unfold State.FoldSettled; decide +kernel, by decide +kernel⟩,
    calm_of _ (by decide +kernel), by unfold State.FoldSettled; decide +kernel, by decide +kernel⟩

theorem hyps_EndOfSearchingInAClosingWindow :
    let s := closing (withQueue 16 (searching [1036] 0x3063 7 opened))
    s.Still ∧ (∀ k : Fin 4, s.holds[k] = none) ∧ s.postings = [] ∧ s.queue.length = 16
    ∧ s.repair = some ⟨0, u1, .searching [1036] 0x3063 0⟩ ∧ s.contexts[(0 : Fin 32)] = some (context .repairing 7)
    ∧ s.windows[(context .repairing 7).uid.window].state = .closing ∧ (search p128 [1036] 0x3063).1 ≠ .found
    ∧ 7 < p128.passLimit :=
  ⟨still_of _ (by decide +kernel), by decide +kernel⟩

/-- The last data position and the last check position. -/
theorem hyps_ContributionIsTheCheckOfOneBit :
    p128.checkKind ≠ .none ∧ 1023 < 8 * p128.dataSize ∧ 15 < 8 * p128.checkWidth := by decide

theorem hyps_CheckIsLinear : [true, false].length = [false, false].length := by decide

theorem hyps_SearchStopsAtTheSmallestMatch :
    [1036, 1021, 1022, 1023, 1039].Nodup ∧ (search p128 [1036, 1021, 1022, 1023, 1039] 0x3063).1 = .found
    ∧ [1030, 1019, 1023, 1035].Nodup ∧ (search p128 [1030, 1019, 1023, 1035] 0x0210).1 = .ambiguous
    ∧ [1036].Nodup ∧ (search p128 [1036] 0x3063).1 = .nomatch := by decide +kernel

/-- An all-zero unit under preset 0 with data positions 1022 and 1023 read wrong. -/
theorem hyps_FoundRepairClearsTheSyndrome :
    let p := { p128 with preset := 0 }
    let bits := flipFrom [1022, 1023] 0 (List.replicate 1040 false)
    p.checkKind ≠ .none ∧ bits.length = p.tallied ∧ [1036, 1021, 1022, 1023, 1039].Nodup
    ∧ (∀ k ∈ [1036, 1021, 1022, 1023, 1039], k < p.tallied)
    ∧ search p [1036, 1021, 1022, 1023, 1039] (syndrome p bits) = (.found, [1022, 1023]) := by decide +kernel

theorem hyps_listening : (framed opened).Listening frame := ⟨rfl, rfl⟩

/-- The lowest and the highest flag; ATTN driven and not. -/
theorem hyps_FlagCommands : (1 : BitVec 16).getLsbD Flag.succeeded.bit = true ∧ (0x800 : BitVec 16).getLsbD Flag.reset.bit = true
    ∧ { opened with flags := 0x800, enables := 0x800 }.attnLow = true ∧ { opened with flags := 0x800 }.attnLow = false := by
  decide +kernel

/-- READ-FAULT with an empty and with a held record. -/
theorem hyps_ReportCommands : (framed opened).faultRecord = none
    ∧ { framed opened with faultRecord := some ⟨0x1108, .trailer⟩ }.Listening frame
    ∧ { framed opened with faultRecord := some ⟨0x1108, .trailer⟩ }.faultRecord = some ⟨0x1108, .trailer⟩ :=
  ⟨by decide, ⟨rfl, rfl⟩, rfl⟩

/-- Window 0 is ACTIVE, window 7 OFF; each boundary value of a refused and of a stored field. -/
theorem hyps_ProfileCommands :
    ((0 : Byte).toNat = (0 : Fin 8).val ∧ (framed opened).windows[(0 : Fin 8)].state ≠ .off)
    ∧ ((7 : Byte).toNat = (7 : Fin 8).val ∧ (framed opened).windows[(7 : Fin 8)].state = .off) ∧ 13 < (14 : Byte).toNat
    ∧ (6 : BitVec 32).toNat % 4 ≠ 0 ∧ 5 < (6 : BitVec 32).toNat ∧ 2 < (3 : BitVec 32).toNat ∧ 15 < (16 : BitVec 32).toNat
    ∧ (8 : BitVec 32).toNat % 4 = 0 ∧ (5 : BitVec 32).toNat ≤ 5 ∧ (2 : BitVec 32).toNat ≤ 2 ∧ (15 : BitVec 32).toNat ≤ 15
    ∧ ((13 : Byte), 0, 65535) ∈ ([(12, 0, 255), (13, 0, 65535)] : List (Byte × Nat × Nat))
    ∧ ((framed opened).profile 7).field 13 = some 2000 := by decide +kernel

/-- OPEN-WINDOW: a window that is not OFF; a span one word into another window, into the ring, past the top; P below M; and a
span that ends at the top of the address space, refused for nothing. -/
theorem hyps_OpenWindowTests :
    let wrong := fun p : Profile => (openable p).openRefused 1
    let s := openable { p128 with base := 0xFFFFFDE0 }
    (openable p128).Listening frame
    ∧ (s.Still ∧ s.openRefused 1 = false ∧ ∀ k : Fin 4, s.holds[k] = none)
    ∧ ((openable p128).windows[(0 : Fin 8)].state ≠ .off ∧ (openable p128).windows[(1 : Fin 8)].state = .off)
    ∧ ([0x121C, 0x1DE4, 0x803C, 0xFFFFFDE4, 0x1220, 0x1DE0, 0x8040] : List Addr).map (fun b => wrong { p128 with base := b })
      = [true, true, true, true, false, false, false]
    ∧ wrong { p128 with base := 0x4000, passLimit := 1 } = true :=
  ⟨⟨rfl, rfl⟩, ⟨still_of _ (by decide +kernel), by decide +kernel⟩, by decide +kernel⟩

/-- Each state of the window; a filling pass; nothing under way; an OPEN context behind a full queue. -/
theorem hyps_CloseWindowStartsTheDrain :
    let f := framed (fillingAt 8 (some 3) opened)
    let o := framed opened
    let c := framed (withQueue 16 (withContext (context .opened 3) opened))
    (o.windows[(7 : Fin 8)].state = .off ∧ (framed (closing opened)).windows[(0 : Fin 8)].state = .closing)
    ∧ (f.Still ∧ f.windows[(0 : Fin 8)].state = .active ∧ f.passQuiet 0 = false)
    ∧ (o.Still ∧ o.windows[(0 : Fin 8)].state = .active ∧ o.passQuiet 0 = true ∧ o.windowContexts 0 = []
      ∧ ∀ k : Fin 4, o.lanes[k].runsLate 0 = false)
    ∧ c.Still ∧ c.windows[(0 : Fin 8)].state = .active ∧ c.passQuiet 0 = true ∧ c.windowContexts 0 = [0]
      ∧ c.contexts[(0 : Fin 32)] = some (context .opened 3) ∧ c.postings = [] ∧ c.queue.length = 16 :=
  ⟨by decide +kernel, ⟨still_of _ (by decide +kernel), by decide +kernel⟩, ⟨still_of _ (by decide +kernel), by decide +kernel⟩,
    still_of _ (by decide +kernel), by decide +kernel⟩

/-- A fold and a repair of the window; a fold and a repair of another one, beside a staged pass of the window; a CLOSING window
with a posting, a unit queued for repair and a filling pass. -/
theorem hyps_AbandonWindowEndsItsWork :
    let s := framed { updating opened with repair := some ⟨3, u1, .searching [1] 3 0⟩ }
    let t := framed { staged opened with
      fold := some ⟨⟨2, 0, ⟨1, 0⟩⟩, .raw false⟩, repair := some ⟨3, ⟨1, 0⟩, .searching [1] 3 0⟩ }
    let c := framed (closing (fillingAt 8 (some 9) { feeding [.trailer, .notice] opened with
      contexts := (feeding [] opened).contexts.set 1 (some { context .repairWait 3 with uid := u0 })
      repairQueue := [1], repair := some ⟨3, ⟨1, 0⟩, .searching [1] 3 0⟩ }))
    (s.Listening frame ∧ s.Calm ∧ (∀ p ∈ s.foldQueue, p.uid.window = 0) ∧ s.fold = some ⟨pass1, .updating 0⟩
      ∧ pass1.uid.window = 0 ∧ s.repair = some ⟨3, u1, .searching [1] 3 0⟩ ∧ u1.window = 0)
    ∧ (t.Listening frame ∧ t.Calm ∧ t.lanes[(2 : Fin 4)].fills 0 = false
      ∧ t.fold = some ⟨⟨2, 0, ⟨1, 0⟩⟩, .raw false⟩ ∧ t.repair = some ⟨3, ⟨1, 0⟩, .searching [1] 3 0⟩)
    ∧ c.Listening frame ∧ (∀ a ∈ c.active, a.waiting = []) ∧ (∀ v : Fin 8, v ≠ 0 → c.windows[v].state ≠ .closing)
      ∧ (∀ x ∈ c.postings, x.owner.map UnitId.window = some 0) ∧ c.postings ≠ [] ∧ c.ring.backlog = []
      ∧ c.repairQueue = [1] ∧ holdsWindow 0 c.contexts[(1 : Fin 32)] = true ∧ (∀ k : Fin 4, c.holds[k] = none)
      ∧ c.testDue = false ∧ c.lanes[(1 : Fin 4)].fills 0 = true ∧ c.windows[(0 : Fin 8)].state = .closing :=
  ⟨⟨⟨rfl, rfl⟩, calm_of _ (by decide +kernel), by decide +kernel⟩,
    ⟨⟨rfl, rfl⟩, calm_of _ (by decide +kernel), by decide +kernel⟩, ⟨rfl, rfl⟩, by decide +kernel⟩

theorem hyps_CounterCommands : (framed opened).Listening frame ∧ (7 : Byte).toNat = (7 : Fin 8).val := ⟨⟨rfl, rfl⟩, rfl⟩

/-- The unit index at the count; the last unit, without a context; a unit with a context. -/
theorem hyps_UnitCommands :
    let s := framed (withContext (context .opened 3) opened)
    s.Listening frame ∧ (s.profile 0).unitCount ≤ (4 : BitVec 16).toNat
    ∧ ((3 : BitVec 16).toNat < (s.profile 0).unitCount ∧ s.findContext ⟨0, 3⟩ = none)
    ∧ s.findContext ⟨0, 1⟩ = some 0 ∧ s.contexts[(0 : Fin 32)] = some (context .opened 3) :=
  ⟨⟨rfl, rfl⟩, by decide +kernel⟩

/-- Each refusal at its boundary (a multiple of 8 alone, a region of 16 bytes, one place of a window), a region of exactly two
places, and a disable with a backlog posting in progress. -/
theorem hyps_RingSetup :
    let s := framed opened
    let r := framed { withQueue 16 opened with
      ring := ⟨0x8000, 0x8040, true, 0x8010, 0x8030, 255, [⟨u1, .good, 2, 0, [], .none, 1⟩]⟩
      postings := [⟨.backlog, none, [.notice]⟩] }
    s.Listening frame ∧ s.ring.enabled = false ∧ (0x8008 : Addr).toNat % 16 ≠ 0
    ∧ (0x8010 : Addr).toNat < (0x8000 : Addr).toNat + 32
    ∧ s.ringMeets 0x0FE0 0x1010 = true ∧ s.ringMeets 0x0FE0 0x1000 = false
    ∧ (0x0FE0 : Addr).toNat % 16 = 0 ∧ (0x1000 : Addr).toNat = (0x0FE0 : Addr).toNat + 32
    ∧ s.ring.past.toNat < s.ring.first.toNat + 32
    ∧ { ringFull opened with ring := ⟨0x8000, 0x8020, false, 0, 0, 0, []⟩ }.ring.first.toNat + 32 ≤ 0x8020
    ∧ r.ring.enabled = true ∧ (∀ x ∈ r.postings, x.poster = .backlog) ∧ r.Still := by
  intro s r
  refine ⟨⟨rfl, rfl⟩, ?_⟩
  refine ⟨by decide, by decide, by decide +kernel, ?_⟩
  refine ⟨by decide +kernel, by decide +kernel, by decide, ?_⟩
  exact ⟨by decide, by decide +kernel, by decide +kernel, by decide +kernel, by decide +kernel, still_of _ (by decide +kernel)⟩

/-- With the write pointer at 0x8010 and the consumed pointer at 0x8030 of a ring of four places: the pointer just outside at
both ends, the write pointer itself, and one place beyond it. -/
theorem hyps_RingConsumedMovesThePointer :
    let s := framed (ringOn opened)
    let r := s.ring
    (framed opened).ring.enabled = false
    ∧ (s.Listening frame ∧ r.enabled = true ∧ s.Still ∧ s.postings = [] ∧ r.backlog = [])
    ∧ (0x8018 : Addr).toNat % 16 ≠ 0 ∧ (0x7FF0 : Addr).toNat < r.first.toNat ∧ r.past.toNat ≤ (0x8040 : Addr).toNat
    ∧ r.distance r.consumed 0x8010 ≤ r.distance r.consumed r.write
    ∧ r.distance r.consumed r.write < r.distance r.consumed 0x8020 :=
  ⟨by decide +kernel, ⟨⟨rfl, rfl⟩, by decide +kernel, still_of _ (by decide +kernel), by decide +kernel⟩,
    by decide +kernel⟩

/-- A full ring with two notices in the backlog, given one place; given a place with one notice behind a full queue. -/
theorem hyps_RingConsumedMovesTheBacklog :
    let note : Notice := ⟨u1, .good, 2, 0, [], .none, 1⟩
    let s := framed { ringFull opened with ring := { (ringFull opened).ring with backlog := [note, note] } }
    let t := framed { ringFull (withQueue 16 opened) with ring := { (ringFull opened).ring with backlog := [note] } }
    (s.Still ∧ s.ring.enabled = true ∧ s.ring.full = true ∧ s.postings = [] ∧ s.queue.length < 16
      ∧ (0x8010 : Addr) ≠ s.ring.consumed ∧ (0x8010 : Addr) = s.ring.advance s.ring.consumed
      ∧ s.ring.distance s.ring.consumed 0x8010 ≤ s.ring.distance s.ring.consumed s.ring.write)
    ∧ t.Still ∧ 16 ≤ t.queue.length ∧ t.ring.full = true :=
  ⟨⟨still_of _ (by decide +kernel), by decide +kernel⟩, still_of _ (by decide +kernel), by decide +kernel⟩

/-- No frame; a frame with a reply; a window number just above 7; an unknown code. -/
theorem hyps_OneCommandPerFrame :
    isMaintenance .readFlags = true ∧ opened.frame = none
    ∧ ((framed opened).replied frame 0 .ok []).frame = some { frame with reply := some ⟨0, .ok, []⟩, bitsOut := 7 }
    ∧ (framed opened).Listening frame ∧ 8 ≤ (8 : Byte).toNat ∧ codeUnknown 0x00 = true :=
  ⟨rfl, by decide, by decide, ⟨rfl, rfl⟩, by decide, by decide⟩

theorem hyps_FrameEdges :
    (opened.run = .ready ∧ opened.mselLow = false) ∧ (framed opened).mselLow = true
    ∧ ∀ f, (framed opened).frame = some f → f.coreReset = false := by
  refine ⟨by decide, by decide, fun f hf => ?_⟩
  cases hf
  rfl

/-- An edge without a frame; the last bit before the eighth, the eighth, one after the command; the bit before a byte ends. -/
theorem hyps_MclkEdges :
    let f := { frame with shift := List.replicate 7 true }
    let s := { framed opened with mclk := [.rise true], frame := some f }
    ({ opened with mclk := [.fall] }.frame = none ∧ s.pending = [] ∧ s.frame = some f ∧ f.reply = none)
    ∧ { frame with shift := List.replicate 6 true }.shift.length < 7 ∧ (frame.answered ⟨0, .ok, []⟩).reply ≠ none
    ∧ { s with frame := some { frame with status := 1, bitsOut := 7 } }.mdo = some true := by decide +kernel

/-- With no write stalled, and with one. -/
theorem hyps_CoreResetAtTheEndOfItsFrame :
    let s := { framed opened with frame := some { frame with coreReset := true } }
    (framed opened).Listening frame
    ∧ (s.mselLow = true ∧ s.frame = some { frame with coreReset := true } ∧ ∀ a ∈ s.active, a.waiting = [])
    ∧ stalled.mselLow = true ∧ stalled.frame = some { frame with coreReset := true } ∧ stalled.OneRequestEach :=
  ⟨⟨rfl, rfl⟩, by decide +kernel, by decide, by decide, by unfold State.OneRequestEach; decide +kernel⟩

/-- The engines agree in a state of a run: a fold in UPDATING, another window's unit in a search, a unit queued for repair. -/
def working : State :=
  { updating opened with
    contexts := ((updating opened).contexts.set 3 (some { context .repairing 3 with uid := ⟨2, 0⟩ })).set 4
      (some { context .repairWait 3 with uid := ⟨2, 1⟩ })
    repair := some ⟨3, ⟨2, 0⟩, .searching [1] 3 0⟩
    repairQueue := [4]
    pending := [.settleEvaluation] }

theorem working_agrees : working.EnginesAgree where
  updating _ _ h := by cases h; exact ⟨context .folding 7, by decide +kernel⟩
  keeping _ _ _ h := nomatch h
  settling _ _ _ _ h := nomatch h
  foldPosting _ _ _ _ h := nomatch h
  rawPosting _ _ _ _ h := nomatch h
  onePosting := by decide
  searching _ _ _ _ _ h := by cases h; exact ⟨{ context .repairing 3 with uid := ⟨2, 0⟩ }, by decide +kernel⟩
  waiting i h := by
    cases List.mem_singleton.mp h
    exact ⟨⟨2, 1⟩, { context .repairWait 3 with uid := ⟨2, 1⟩ }, by decide +kernel⟩
  once := by decide

/-- A state of a run with work under way, and a step that changes it: each invariant holds before it. -/
theorem hyps_invariants :
    let s := { fillingAt 128 (some 9) opened with pending := [.requestTake (oneBeat 1 0x1108 beat)] }
    (s.ProfilesLegal ∧ s.QueuesBounded ∧ s.GranulesAccounted ∧ s.UnitsDistinct)
    ∧ (s.OneRequestEach ∧ s.VotesGood ∧ (after (step s) (fun t => t.fold)) = some (some ⟨pass1, .updating 0⟩))
    ∧ working.EnginesAgree ∧ (after (step working) (fun t => (t.fold, t.contexts[0].map Context.passes))) = some (none, some 8) := by
  refine ⟨⟨by unfold State.ProfilesLegal; decide +kernel, by constructor <;> decide +kernel, ?_, distinct_of _ (by decide +kernel)⟩,
    ⟨by unfold State.OneRequestEach; decide, ?_, by decide +kernel⟩, working_agrees, by decide +kernel⟩
  · exact List.Perm.of_eq (by decide +kernel)
  · exact ⟨by constructor <;> decide, by unfold TalliesInRange; decide⟩

end Sys2Proof.Tests
end

/-! The settle evaluation's outcome: which table the check kind chooses (R93), one equation per group of rows of each table
(R94, R95), and the two tables assembled from them. -/

namespace Sys2Proof.Machine

section Rows

variable {p : Profile} {n w : Nat} {isMatch : Bool}

/-! ### The table of a check kind -/

theorem settleOutcome_of_none (hkind : p.checkKind = .none) : settleOutcome p n w isMatch = (settleNone p n w, none) := by
  simp only [settleOutcome, hkind]

theorem settleOutcome_of_ne_none (hkind : p.checkKind ≠ .none) : settleOutcome p n w isMatch = settleCrc p n w isMatch := by
  cases h : p.checkKind with
  | none => exact absurd h hkind
  | crc16 => simp only [settleOutcome, h]
  | crc32 => simp only [settleOutcome, h]

/-! ### The rows under check kind NONE (R94) -/

theorem settleNone_of_agreed (hrow : p.minPasses ≤ n ∧ w = 0) : settleNone p n w = .agreed :=
  if_pos hrow

theorem settleNone_of_not_agreed (hrow : ¬ (p.minPasses ≤ n ∧ w = 0)) :
    settleNone p n w = if p.passLimit ≤ n then .exhausted else .opened :=
  if_neg hrow

/-! ### The rows under CRC16 and CRC32 (R95) -/

theorem settleCrc_match : settleCrc p n w true = (if p.minPasses ≤ n then .good else .opened, none) := rfl

theorem settleCrc_repair (hmin : p.minPasses ≤ n) (hpos : 1 ≤ w) (hlimit : w ≤ p.candidateLimit) :
    settleCrc p n w false = (.repair, none) := by
  simp [settleCrc, hmin, hpos, hlimit]

/-- A mismatch with no bit in doubt. -/
theorem settleCrc_no_candidates (hmin : p.minPasses ≤ n) :
    settleCrc p n 0 false = (if p.passLimit ≤ n then .exhausted else .opened, some .nocandidates) := by
  simp [settleCrc, hmin]

/-- A mismatch with more bits in doubt than the candidate limit allows. -/
theorem settleCrc_over_limit (hmin : p.minPasses ≤ n) (hpos : 1 ≤ w) (hover : p.candidateLimit < w) :
    settleCrc p n w false = (if p.passLimit ≤ n then .exhausted else .opened, some .overlimit) := by
  have hrepair : ¬ (1 ≤ w ∧ w ≤ p.candidateLimit) := fun h => Nat.not_le.mpr hover h.2
  have hweak : w ≠ 0 := Nat.pos_iff_ne_zero.mp hpos
  simp [settleCrc, hmin, hrepair, hweak]

/-- A mismatch before the smallest number of passes, however many bits are in doubt. -/
theorem settleCrc_early (hmin : n < p.minPasses) :
    settleCrc p n w false = (if p.passLimit ≤ n then .exhausted else .opened, none) := by
  simp [settleCrc, Nat.not_le.mpr hmin]

end Rows

/-! ### The two tables -/

/-- Settles O32: each row is the equation of its group, with the pass-limit condition decided by the row. -/
theorem settleOutcomeTables : Obligations.SettleOutcomeTables := by
  intro p n w isMatch
  constructor
  · intro hkind
    rw [settleOutcome_of_none hkind]
    refine ⟨fun hrow => ?agreed, fun hrow hlast => ?exhausted, fun hrow hmore => ?opened⟩
    case agreed => rw [settleNone_of_agreed hrow]
    case exhausted => rw [settleNone_of_not_agreed hrow, if_pos hlast]
    case opened => rw [settleNone_of_not_agreed hrow, if_neg (Nat.not_le.mpr hmore)]
  · intro hkind
    rw [settleOutcome_of_ne_none hkind]
    refine ⟨?good, ?openMatch, ?repair, ?exhaustedNone, ?exhaustedOver, ?openNone, ?openOver, ?exhaustedEarly, ?openEarly⟩
    case good => rintro rfl hmin; rw [settleCrc_match, if_pos hmin]
    case openMatch => rintro rfl hmin; rw [settleCrc_match, if_neg (Nat.not_le.mpr hmin)]
    case repair => rintro rfl hmin hpos hlimit; exact settleCrc_repair hmin hpos hlimit
    case exhaustedNone => rintro rfl hmin rfl hlast; rw [settleCrc_no_candidates hmin, if_pos hlast]
    case exhaustedOver => rintro rfl hmin hpos hover hlast; rw [settleCrc_over_limit hmin hpos hover, if_pos hlast]
    case openNone => rintro rfl hmin rfl hmore; rw [settleCrc_no_candidates hmin, if_neg (Nat.not_le.mpr hmore)]
    case openOver =>
      rintro rfl hmin hpos hover hmore
      rw [settleCrc_over_limit hmin hpos hover, if_neg (Nat.not_le.mpr hmore)]
    case exhaustedEarly => rintro rfl hmin hlast; rw [settleCrc_early hmin, if_pos hlast]
    case openEarly => rintro rfl hmin hmore; rw [settleCrc_early hmin, if_neg (Nat.not_le.mpr hmore)]

end Sys2Proof.Machine

/-! Event flags: reading a flag after it is set or cleared, when ATTN is driven (R166, R168), and what CLEAR-FLAGS,
SET-ENABLES, READ-FLAGS and CLEAR-FAULT leave behind in a frame that waits for its command (R167, R177). -/

namespace Sys2Proof.Machine

/-! ### The bits of the flags -/

theorem Flag.bit_surjective : ∀ i < 12, ∃ x : Flag, x.bit = i
  | 0, _ => ⟨.succeeded, rfl⟩
  | 1, _ => ⟨.failed, rfl⟩
  | 2, _ => ⟨.torn, rfl⟩
  | 3, _ => ⟨.late, rfl⟩
  | 4, _ => ⟨.denied, rfl⟩
  | 5, _ => ⟨.stale, rfl⟩
  | 6, _ => ⟨.override, rfl⟩
  | 7, _ => ⟨.closed, rfl⟩
  | 8, _ => ⟨.ringRecord, rfl⟩
  | 9, _ => ⟨.ringLost, rfl⟩
  | 10, _ => ⟨.fault, rfl⟩
  | 11, _ => ⟨.reset, rfl⟩
  | _ + 12, h => absurd h (by omega)

theorem Flag.getLsbD_mask_bit (x : Flag) : x.mask.getLsbD x.bit = true := by
  cases x <;> rfl

/-- Two sets of flags have a flag in common exactly when their conjunction is not zero. -/
theorem flags_and_ne_zero_iff (a b : BitVec 12) :
    a &&& b ≠ 0 ↔ ∃ x : Flag, a.getLsbD x.bit = true ∧ b.getLsbD x.bit = true := by
  constructor
  · intro hne
    by_contra hnone
    refine hne (BitVec.eq_of_getLsbD_eq fun i hi => ?_)
    obtain ⟨x, rfl⟩ := Flag.bit_surjective i hi
    have hclear : ¬ (a &&& b).getLsbD x.bit = true := by
      rw [BitVec.getLsbD_and, Bool.and_eq_true]
      exact fun hx => hnone ⟨x, hx⟩
    simpa using hclear
  · rintro ⟨x, ha, hb⟩ hzero
    have hset : (a &&& b).getLsbD x.bit = true := by rw [BitVec.getLsbD_and, ha, hb, Bool.and_self]
    rw [hzero] at hset
    simp at hset

/-! ### Setting and clearing a flag, and ATTN -/

theorem State.setFlag_flag_same (s : State) (x : Flag) : (s.setFlag x).flag x = true := by
  rw [State.flag, State.setFlag_flags, BitVec.getLsbD_or, x.getLsbD_mask_bit, Bool.or_true]

/-- A flag is set after CLEAR-FLAGS exactly when it was set before and its mask bit is 0. -/
theorem getLsbD_clearMask (flags : BitVec 12) (mask : BitVec 16) (i : Nat) :
    (clearMask flags mask).getLsbD i = (flags.getLsbD i && !mask.getLsbD i) := by
  by_cases hi : i < 12
  · simp [clearMask, hi]
  · simp [clearMask, flags.getLsbD_of_ge i (Nat.not_lt.mp hi)]

theorem getLsbD_clearMask_of_mask (flags : BitVec 12) {mask : BitVec 16} {i : Nat} (h : mask.getLsbD i = true) :
    (clearMask flags mask).getLsbD i = false := by
  rw [getLsbD_clearMask, h, Bool.not_true, Bool.and_false]

theorem State.attnLow_iff (s : State) :
    s.attnLow = true ↔ s.run ≠ .held ∧ ∃ x : Flag, s.flag x = true ∧ s.enables.getLsbD x.bit = true := by
  rw [State.attnLow, Bool.and_eq_true, bne_iff_ne, bne_iff_ne, flags_and_ne_zero_iff]
  rfl

/-! ### The flag commands in a frame that waits for its command -/

/-- The two bytes of twelve flags or enables, low byte first; bits 12 to 15 read 0. -/
theorem bytes2_toNat (x : BitVec 12) : bytes2 x.toNat = [x.setWidth 8, (x >>> 8).setWidth 8] := by
  have hhigh : x.toNat / 256 = (x >>> 8).toNat := by rw [BitVec.toNat_ushiftRight, Nat.shiftRight_eq_div_pow]
  rw [bytes2, hhigh, byteOf, byteOf, BitVec.ofNat_toNat, BitVec.ofNat_toNat]

section Listening

variable {s : State} {f : Frame}

theorem exec_clearFlags_of_listening (h : s.Listening f) (mask : BitVec 16) :
    exec (.clearFlags mask) s = .next ({ s with flags := clearMask s.flags mask }.replied f 2 .ok []) :=
  congrArg _ (s.command_of_listening _ _ f h)

theorem exec_setEnables_of_listening (h : s.Listening f) (value : BitVec 16) :
    exec (.setEnables value) s = .next ({ s with enables := value.setWidth 12 }.replied f 2 .ok []) :=
  congrArg _ (s.command_of_listening _ _ f h)

theorem exec_readFlags_of_listening (h : s.Listening f) :
    exec .readFlags s = .next (s.replied f 0 .ok (bytes2 s.flags.toNat ++ bytes2 s.enables.toNat)) :=
  congrArg _ (s.command_of_listening _ _ f h)

theorem exec_clearFault_of_listening (h : s.Listening f) :
    exec .clearFault s = .next ({ s with faultRecord := none }.replied f 0 .ok []) :=
  congrArg _ (s.command_of_listening _ _ f h)

/-- A frame that waits for its command waits for it after a setting event too. -/
theorem State.Listening.setFlag (h : s.Listening f) (x : Flag) : (s.setFlag x).Listening f := h

/-- CLEAR-FLAGS leaves a flag clear whose mask bit is 1, however it stood before. -/
theorem exec_clearFlags_flag (h : s.Listening f) {mask : BitVec 16} {x : Flag} (hx : mask.getLsbD x.bit = true) :
    ∃ t, exec (.clearFlags mask) s = .next t ∧ t.flag x = false :=
  ⟨_, exec_clearFlags_of_listening h mask, getLsbD_clearMask_of_mask s.flags hx⟩

end Listening

/-- Settles O43: each command by its exact next state, a flag and the clear by the flag's own mask bit, ATTN by
`State.attnLow_iff`. -/
theorem flagCommands : Obligations.FlagCommands := by
  refine ⟨fun s f mask value h => ⟨?clear, ?enables, ?read, ?clearFault, fun x hx => ⟨?before, ?after⟩⟩, State.attnLow_iff⟩
  case clear => exact exec_clearFlags_of_listening h mask
  case enables => exact exec_setEnables_of_listening h value
  case read => rw [exec_readFlags_of_listening h, bytes2_toNat, bytes2_toNat]; rfl
  case clearFault => exact ⟨_, exec_clearFault_of_listening h, rfl⟩
  case before => exact exec_clearFlags_flag (h.setFlag x) hx
  case after =>
    obtain ⟨t, ht, hclear⟩ := exec_clearFlags_flag h hx
    exact ⟨t, ht, hclear, t.setFlag_flag_same x⟩

end Sys2Proof.Machine

/-! What every command keeps (R22, R68, R69, R3, R60, R80, R104, R107, R128, R138, R155): the invariants of `Safety` bundled as a
relation between the states before and after, one lemma per shared operation, up to every command and every step. -/

namespace Sys2Proof.Machine

/-! ### The relation -/

/-- Each invariant of the stores (profiles, queues, granules, contexts, requests, votes) that holds before holds after. -/
structure State.KeepsStores (s t : State) : Prop where
  profiles : s.ProfilesLegal → t.ProfilesLegal
  queues : s.QueuesBounded → t.QueuesBounded
  granules : s.GranulesAccounted → t.GranulesAccounted
  units : s.UnitsDistinct → t.UnitsDistinct
  requests : s.OneRequestEach → t.OneRequestEach
  votes : s.VotesGood → t.VotesGood

/-- Each invariant that holds before holds after, the agreement of the engines among them. -/
structure State.Keeps (s t : State) : Prop where
  stores : s.KeepsStores t
  engines : s.EnginesAgree → t.EnginesAgree

theorem State.KeepsStores.refl (s : State) : s.KeepsStores s := ⟨id, id, id, id, id, id⟩

theorem State.KeepsStores.trans {s t u : State} (h : s.KeepsStores t) (g : t.KeepsStores u) : s.KeepsStores u :=
  ⟨g.profiles ∘ h.profiles, g.queues ∘ h.queues, g.granules ∘ h.granules, g.units ∘ h.units, g.requests ∘ h.requests,
    g.votes ∘ h.votes⟩

theorem State.Keeps.refl (s : State) : s.Keeps s := ⟨.refl s, id⟩

theorem State.Keeps.trans {s t u : State} (h : s.Keeps t) (g : t.Keeps u) : s.Keeps u :=
  ⟨h.stores.trans g.stores, g.engines ∘ h.engines⟩

theorem State.Keeps.foldl {α : Type} {f : State → α → State} (h : ∀ (s : State) (a : α), s.Keeps (f s a)) :
    ∀ (l : List α) (s : State), s.Keeps (l.foldl f s)
  | [], s => .refl s
  | a :: l, s => (h s a).trans (State.Keeps.foldl h l _)

/-! ### Operations that touch no part an invariant speaks of -/

/-- The parts the invariants speak of, but for the profiles: queue, backlog and run count; the initiators of the requests; the
vote store; the unit table and the engines. -/
structure State.SameWork (s t : State) : Prop where
  queue : t.queue = s.queue
  backlog : t.ring.backlog = s.ring.backlog
  runCount : t.runCount = s.runCount
  requests : t.active.map Active.initiator = s.active.map Active.initiator
  votes : t.votes = s.votes
  contexts : t.contexts = s.contexts
  freeList : t.freeList = s.freeList
  fold : t.fold = s.fold
  repair : t.repair = s.repair
  repairQueue : t.repairQueue = s.repairQueue
  postings : t.postings = s.postings

theorem State.SameWork.refl (s : State) : s.SameWork s := by constructor <;> rfl

theorem State.SameWork.trans {s t u : State} (h : s.SameWork t) (g : t.SameWork u) : s.SameWork u :=
  ⟨g.queue.trans h.queue, g.backlog.trans h.backlog, g.runCount.trans h.runCount, g.requests.trans h.requests,
    g.votes.trans h.votes, g.contexts.trans h.contexts, g.freeList.trans h.freeList, g.fold.trans h.fold,
    g.repair.trans h.repair, g.repairQueue.trans h.repairQueue, g.postings.trans h.postings⟩

theorem State.SameWork.foldl {α : Type} {f : State → α → State} (h : ∀ (s : State) (a : α), s.SameWork (f s a)) :
    ∀ (l : List α) (s : State), s.SameWork (l.foldl f s)
  | [], s => .refl s
  | a :: l, s => (h s a).trans (State.SameWork.foldl h l _)

/-- The profiles are as they were. -/
def State.SameProfiles (s t : State) : Prop := ∀ w, t.profile w = s.profile w

theorem State.SameProfiles.legal {s t : State} (h : s.SameProfiles t) (hs : s.ProfilesLegal) : t.ProfilesLegal :=
  fun w => h w ▸ hs w

theorem State.Untouched.sameProfiles {s t : State} (h : s.Untouched t) : s.SameProfiles t := h.profile

theorem State.QueuesBounded.congr {s t : State} (h : s.QueuesBounded) (hq : t.queue = s.queue)
    (hb : t.ring.backlog = s.ring.backlog) (hr : t.runCount = s.runCount) : t.QueuesBounded :=
  ⟨hq ▸ h.queue, hb ▸ h.backlog, hr ▸ h.runCount⟩

theorem State.GranulesAccounted.congr {s t : State} (h : s.GranulesAccounted) (hc : t.contexts = s.contexts)
    (hf : t.freeList = s.freeList) : t.GranulesAccounted := by
  unfold State.GranulesAccounted State.heldGranules
  rw [hc, hf]
  exact h

theorem State.UnitsDistinct.congr {s t : State} (h : s.UnitsDistinct) (hc : t.contexts = s.contexts) : t.UnitsDistinct := by
  unfold State.UnitsDistinct
  rw [hc]
  exact h

theorem State.OneRequestEach.congr {s t : State} (h : s.OneRequestEach)
    (ha : t.active.map Active.initiator = s.active.map Active.initiator) : t.OneRequestEach := by
  unfold State.OneRequestEach
  rw [ha]
  exact h

theorem State.VotesGood.congr {s t : State} (h : s.VotesGood) (hv : t.votes = s.votes) : t.VotesGood :=
  ⟨hv ▸ h.form, hv ▸ h.range⟩

/-- Which slots hold a context of a unit in a state is a matter of the unit table alone. -/
theorem State.HoldsIn.congr {s t : State} {i : Fin 32} {u : UnitId} {x : ContextState} (h : s.HoldsIn i u x)
    (hc : t.contexts = s.contexts) : t.HoldsIn i u x := by
  unfold State.HoldsIn
  rw [hc]
  exact h

/-- A change that leaves the engines and their queue alone, makes no posting of the fold engine, keeps what the engines name and
lets no DRAINING context leave that state keeps the engines in agreement. -/
theorem State.EnginesAgree.of_held {s t : State} (h : s.EnginesAgree) (hfold : t.fold = s.fold) (hrepair : t.repair = s.repair)
    (hqueue : t.repairQueue = s.repairQueue) (hposts : ∀ x ∈ t.postings, x.byFold = true → ∃ steps, { x with steps := steps } ∈ s.postings)
    (hcount : t.postings.countP Posting.byFold ≤ s.postings.countP Posting.byFold)
    (hheld : ∀ i u x, x ≠ .opened → x ≠ .draining → s.HoldsIn i u x → t.HoldsIn i u x)
    (hdrain : ∀ (i : Fin 32) (d : Context), t.contexts[i] = some d →
      ∃ c, s.contexts[i] = some c ∧ (c.state = .draining → d.state = .draining)) : t.EnginesAgree where
  updating pass i hf := hheld _ _ _ nofun nofun (h.updating pass i (hfold ▸ hf))
  keeping pass i o hf ho := hheld _ _ _ nofun nofun (h.keeping pass i o (hfold ▸ hf) ho)
  settling pass i o d hf ho hd := by
    obtain ⟨c, hc, hcd⟩ := hdrain i d hd
    exact hcd (h.settling pass i o c (hfold ▸ hf) ho hc)
  foldPosting i o u steps hx := by
    obtain ⟨steps', hx'⟩ := hposts _ hx rfl
    rw [hfold]
    exact h.foldPosting i o u steps' hx'
  rawPosting pass clean u steps hx := by
    obtain ⟨steps', hx'⟩ := hposts _ hx rfl
    rw [hfold]
    exact h.rawPosting pass clean u steps' hx'
  onePosting := hcount.trans h.onePosting
  searching i u cands syn n hr := hheld _ _ _ nofun nofun (h.searching i u cands syn n (hrepair ▸ hr))
  waiting i hi := by
    obtain ⟨u, hu⟩ := h.waiting i (hqueue ▸ hi)
    exact ⟨u, hheld _ _ _ nofun nofun hu⟩
  once := hqueue ▸ h.once

theorem State.EnginesAgree.congr {s t : State} (h : s.EnginesAgree) (hc : t.contexts = s.contexts) (hf : t.fold = s.fold)
    (hr : t.repair = s.repair) (hq : t.repairQueue = s.repairQueue) (hp : t.postings = s.postings) : t.EnginesAgree :=
  h.of_held hf hr hq (fun x hx _ => ⟨x.steps, hp ▸ hx⟩) (Nat.le_of_eq (by rw [hp])) (fun _ _ _ _ _ hh => hh.congr hc)
    (fun i d hd => ⟨d, by rw [← hc]; exact hd, id⟩)

theorem State.SameWork.keeps_of_legal {s t : State} (h : s.SameWork t) (hp : s.ProfilesLegal → t.ProfilesLegal) :
    s.Keeps t where
  stores := ⟨hp, fun hs => hs.congr h.queue h.backlog h.runCount, fun hs => hs.congr h.contexts h.freeList,
    fun hs => hs.congr h.contexts, fun hs => hs.congr h.requests, fun hs => hs.congr h.votes⟩
  engines hs := hs.congr h.contexts h.fold h.repair h.repairQueue h.postings

theorem State.SameWork.keeps {s t : State} (h : s.SameWork t) (hp : s.SameProfiles t) : s.Keeps t :=
  h.keeps_of_legal hp.legal

/-- A change of queue, backlog and run count alone. -/
theorem State.Keeps.of_queues {s t : State} (hp : s.SameProfiles t) (hq : s.QueuesBounded → t.QueuesBounded)
    (ha : t.active = s.active) (hv : t.votes = s.votes) (hc : t.contexts = s.contexts) (hfl : t.freeList = s.freeList)
    (hf : t.fold = s.fold) (hr : t.repair = s.repair) (hrq : t.repairQueue = s.repairQueue) (hps : t.postings = s.postings) :
    s.Keeps t where
  stores := ⟨hp.legal, hq, fun hs => hs.congr hc hfl, fun hs => hs.congr hc, fun hs => hs.congr (by rw [ha]),
    fun hs => hs.congr hv⟩
  engines hs := hs.congr hc hf hr hrq hps

/-- A change of the requests alone. -/
theorem State.Keeps.of_requests {s t : State} (hp : s.SameProfiles t) (ha : s.OneRequestEach → t.OneRequestEach)
    (hq : t.queue = s.queue) (hb : t.ring.backlog = s.ring.backlog) (hn : t.runCount = s.runCount) (hv : t.votes = s.votes)
    (hc : t.contexts = s.contexts) (hfl : t.freeList = s.freeList) (hf : t.fold = s.fold) (hr : t.repair = s.repair)
    (hrq : t.repairQueue = s.repairQueue) (hps : t.postings = s.postings) : s.Keeps t where
  stores := ⟨hp.legal, fun hs => hs.congr hq hb hn, fun hs => hs.congr hc hfl, fun hs => hs.congr hc, ha,
    fun hs => hs.congr hv⟩
  engines hs := hs.congr hc hf hr hrq hps

/-- A change of the unit table, the vote store and the engines alone. -/
theorem State.KeepsStores.of_table {s t : State} (hp : s.SameProfiles t) (hq : t.queue = s.queue)
    (hb : t.ring.backlog = s.ring.backlog) (hn : t.runCount = s.runCount) (ha : t.active = s.active)
    (hv : s.VotesGood → t.VotesGood) (hg : s.GranulesAccounted → t.GranulesAccounted)
    (hu : s.UnitsDistinct → t.UnitsDistinct) : s.KeepsStores t :=
  ⟨hp.legal, fun hs => hs.congr hq hb hn, hg, hu, fun hs => hs.congr (by rw [ha]), hv⟩

/-- A change of the engines, their queue and their postings alone. -/
theorem State.KeepsStores.of_engines {s t : State} (hp : s.SameProfiles t) (hq : t.queue = s.queue)
    (hb : t.ring.backlog = s.ring.backlog) (hn : t.runCount = s.runCount) (ha : t.active = s.active) (hv : t.votes = s.votes)
    (hc : t.contexts = s.contexts) (hfl : t.freeList = s.freeList) : s.KeepsStores t :=
  .of_table hp hq hb hn ha (fun hs => hs.congr hv) (fun hs => hs.congr hc hfl) (fun hs => hs.congr hc)

section
variable (s : State)

theorem State.setLane_sameWork (k : Fin 4) (x : Lane) : s.SameWork (s.setLane k x) := by constructor <;> rfl

theorem State.setFlag_sameWork (f : Flag) : s.SameWork (s.setFlag f) := by constructor <;> rfl

theorem State.setWindow_sameWork (w : Fin 8) (x : Window) : s.SameWork (s.setWindow w x) := by constructor <;> rfl

theorem State.setHold_sameWork (k : Fin 4) (x : Option HoldRecord) : s.SameWork (s.setHold k x) := by constructor <;> rfl

theorem State.joinThrough_sameWork (t : Through) : s.SameWork (s.joinThrough t) := by constructor <;> rfl

theorem State.dropLateRuns_sameWork (w : Fin 8) : s.SameWork (s.dropLateRuns w) := by
  refine .foldl (fun t k => ?_) _ _
  split
  · exact t.setLane_sameWork _ _
  · exact .refl t

theorem Active.reclassify_initiator (ws : Vector Window 8) (span : Addr → Bool) (a : Active) :
    (a.reclassify ws span).initiator = a.initiator := by
  unfold Active.reclassify
  split <;> rfl

theorem State.changeWindow_sameWork (w : Fin 8) (x : WindowState) : s.SameWork (s.changeWindow w x) := by
  constructor <;> try rfl
  simp only [State.changeWindow, State.setWindow_active, List.map_map]
  exact List.map_congr_left fun a _ => a.reclassify_initiator _ _

theorem State.windowOff_sameWork (w : Fin 8) : s.SameWork (s.windowOff w) :=
  (s.changeWindow_sameWork w .off).trans (State.dropLateRuns_sameWork _ w)

theorem State.endDrain_sameWork (w : Fin 8) : s.SameWork (s.endDrain w) :=
  (s.windowOff_sameWork w).trans (State.setFlag_sameWork _ _)

theorem State.endDrain_keeps (w : Fin 8) : s.Keeps (s.endDrain w) :=
  (s.endDrain_sameWork w).keeps (s.endDrain_untouched w).sameProfiles

theorem State.tear_sameWork (k : Fin 4) : s.SameWork (s.tear k) := by
  unfold State.tear
  split
  · exact .refl s
  · constructor <;> rfl

theorem State.startPass_sameWork (k : Fin 4) (u : UnitId) (q : Quad) (t : State) (h : s.startPass k u q = some t) :
    s.SameWork t := by
  unfold State.startPass at h
  split at h
  · cases h
  · cases h; exact s.setLane_sameWork _ _

theorem State.appendBeat_sameWork (k : Fin 4) (f : Filling) (o : Nat) (q : Quad) : s.SameWork (s.appendBeat k f o q) := by
  unfold State.appendBeat
  dsimp only
  split <;> constructor <;> rfl

theorem State.continueLate_sameWork (k : Fin 4) (u : UnitId) (o : Nat) (b : Bool) : s.SameWork (s.continueLate k u o b) := by
  unfold State.continueLate
  split <;> constructor <;> rfl

/-- What a lane does with a beat touches lanes, windows, flags and the fold queue only. -/
theorem State.laneBeat_sameWork (k : Fin 4) (u : UnitId) (o : Nat) (closing : Bool) (b : Beat) (t : State)
    (h : s.laneBeat k u o closing b = some t) : s.SameWork t := by
  have torn := s.tear_sameWork k
  unfold State.laneBeat at h
  split at h
  · split at h
    · cases h
      exact torn.trans (by constructor <;> rfl)
    · split at h
      · exact torn.trans (State.startPass_sameWork _ _ _ _ _ h)
      · cases h
        exact torn.trans (by constructor <;> rfl)
  · split at h
    · split at h
      · cases h; exact s.appendBeat_sameWork _ _ _ _
      · cases h; exact torn
    · split at h
      · cases h; exact s.continueLate_sameWork _ _ _ _
      · cases h; constructor <;> rfl

theorem State.laneBeat_keeps (k : Fin 4) (u : UnitId) (o : Nat) (closing : Bool) (b : Beat) (t : State)
    (h : s.laneBeat k u o closing b = some t) : s.Keeps t :=
  (s.laneBeat_sameWork k u o closing b t h).keeps (s.laneBeat_leaves k u o closing b t h).sameProfiles

theorem State.testHold_sameWork (k : Fin 4) : s.SameWork (s.testHold k) := by
  unfold State.testHold
  split
  · split
    · exact s.setHold_sameWork _ _
    · exact .refl s
  · exact .refl s

theorem State.testHolds_sameWork : s.SameWork s.testHolds := by
  unfold State.testHolds
  split
  · exact (State.SameWork.foldl State.testHold_sameWork (List.finRange 4) s).trans (by constructor <;> rfl)
  · exact .refl s

theorem Active.markStalled_initiator (a : Active) : a.markStalled.initiator = a.initiator := by
  unfold Active.markStalled
  split <;> rfl

theorem State.markStalled_sameWork : s.SameWork s.markStalled := by
  constructor <;> try rfl
  simp only [State.markStalled, List.map_map]
  exact List.map_congr_left fun a _ => a.markStalled_initiator

/-! ### Requests -/

theorem State.respond_keeps (k : Fin 4) (r : Response) : s.Keeps (s.respond k r) :=
  .of_requests (s.respond_untouched k r).sameProfiles
    (fun h => List.Nodup.sublist (List.filter_sublist.map Active.initiator) h) rfl rfl rfl rfl rfl rfl rfl rfl rfl rfl

/-- A request's record changes, its initiator stays. -/
theorem State.modifyActive_keeps (k : Fin 4) (f : Active → Active) (hf : ∀ a, a.initiator = k → (f a).initiator = k) :
    s.Keeps (s.modifyActive k f) := by
  refine State.SameWork.keeps ?_ (s.modifyActive_untouched k f).sameProfiles
  constructor <;> try rfl
  simp only [State.modifyActive_active, List.map_map]
  refine List.map_congr_left fun a _ => ?_
  rw [Function.comp_apply]
  split
  · next h => rw [hf a h, h]
  · rfl

theorem State.answerIfDone_keeps (a : Active) : s.Keeps (s.answerIfDone a) := by
  unfold State.answerIfDone
  split
  · exact s.respond_keeps _ _
  · exact .refl s

theorem State.dealt_keeps (a : Active) (n pieces : Nat) : s.Keeps (s.dealt a n pieces) :=
  (s.modifyActive_keeps a.initiator (fun _ => { a with
    waiting := a.waiting.drop n, inFlight := a.inFlight + pieces, stalled := a.stalled && a.waiting.drop n != [] })
    (fun _ _ => rfl)).trans (State.answerIfDone_keeps _ _)

/-- A request of an initiator without one is taken. -/
theorem State.OneRequestEach.take {s t : State} (h : s.OneRequestEach) (a : Active) (hfree : s.busyInitiator a.initiator = false)
    (ht : t.active = s.active ++ [a]) : t.OneRequestEach := by
  unfold State.OneRequestEach
  rw [ht, List.map_append, List.map_singleton]
  refine List.Nodup.append h (List.nodup_singleton _) (List.disjoint_singleton.mpr fun hmem => ?_)
  obtain ⟨b, hb, hba⟩ := List.mem_map.mp hmem
  have : s.busyInitiator a.initiator = true := List.any_eq_true.mpr ⟨b, hb, beq_iff_eq.mpr hba⟩
  rw [hfree] at this
  cases this

theorem State.takeRead_keeps (k : Fin 4) (a : Addr) (count : Nat) (h : s.busyInitiator k = false) :
    s.Keeps (s.takeRead k a count) :=
  .of_requests (fun _ => rfl) (fun hs => hs.take ⟨k, [], 1, false, false, false⟩ h rfl) rfl rfl rfl rfl rfl rfl rfl rfl rfl rfl

theorem State.takeWrite_keeps (k : Fin 4) (a : Addr) (beats : List Beat) (h : s.busyInitiator k = false) :
    s.Keeps (s.takeWrite k a beats) :=
  .of_requests (fun _ => rfl) (fun hs => hs.take ⟨k, classifyBeats s.windows k a beats, 0, false, false, false⟩ h rfl)
    rfl rfl rfl rfl rfl rfl rfl rfl rfl rfl

/-! ### The write-back queue, the backlog and the run count -/

/-- A queue and a backlog that are no longer, with a run count that is no higher. -/
theorem State.QueuesBounded.mono {s t : State} (h : s.QueuesBounded) (hq : t.queue.length ≤ s.queue.length)
    (hb : t.ring.backlog.length ≤ s.ring.backlog.length) (hr : t.runCount ≤ s.runCount) : t.QueuesBounded :=
  ⟨hq.trans h.queue, hb.trans h.backlog, hr.trans h.runCount⟩

theorem State.removeEntries_keeps (p : UnitId → Bool) : s.Keeps (s.removeEntries p) := by
  refine .of_queues (s.removeEntries_untouched p).sameProfiles (fun h => h.mono (List.length_filter_le _ _) le_rfl ?_)
    rfl rfl rfl rfl rfl rfl rfl rfl
  simp only [State.removeEntries]
  split
  · exact Nat.zero_le _
  · exact le_rfl

theorem State.enterEntry_keeps (e : Entry) (h : s.queueHasRoom = true) : s.Keeps (s.enterEntry e) := by
  refine .of_queues (fun _ => rfl) (fun hs => ⟨?_, hs.backlog, hs.runCount⟩) rfl rfl rfl rfl rfl rfl rfl rfl
  have hroom : s.queue.length < 16 := of_decide_eq_true h
  rw [State.enterEntry_queue, List.length_append, List.length_singleton]
  exact hroom

theorem State.placeNotice_keeps (n : Notice) (h : s.queueHasRoom = true) : s.Keeps (s.placeNotice n) :=
  (s.enterEntry_keeps (s.ring.entry n) h).trans
    (State.SameWork.keeps (by constructor <;> rfl) (fun _ => rfl))

theorem State.acceptNotice_keeps (n : Notice) (t : State) (h : s.acceptNotice n = some t) : s.Keeps t := by
  unfold State.acceptNotice at h
  split at h
  · cases h; exact .refl s
  · split at h
    · next hroom => cases h; exact s.placeNotice_keeps n hroom
    · cases h
  · next hfate =>
    cases h
    refine .of_queues (fun _ => rfl) (fun hs => ⟨hs.queue, ?_, hs.runCount⟩) rfl rfl rfl rfl rfl rfl rfl rfl
    have hshort : s.ring.backlog.length < 8 := by
      unfold Ring.fate at hfate
      split at hfate
      · split at hfate
        · cases hfate
        · split at hfate
          · assumption
          · cases hfate
      · cases hfate
    simpa using hshort
  · cases h; exact (s.setFlag_sameWork _).keeps (fun _ => rfl)

theorem State.moveBacklog_keeps (t : State) (h : s.moveBacklog = some t) : s.Keeps t := by
  unfold State.moveBacklog at h
  split at h
  · cases h; exact .refl s
  · next n rest hb =>
    split at h
    · next hroom =>
      cases h
      have shorter : s.Keeps { s with ring := { s.ring with backlog := rest } } :=
        .of_queues (fun _ => rfl) (fun hs => hs.mono le_rfl (by rw [hb]; exact Nat.le_succ _) le_rfl)
          rfl rfl rfl rfl rfl rfl rfl rfl
      exact shorter.trans (State.placeNotice_keeps _ n hroom)
    · cases h

end

end Sys2Proof.Machine

namespace Sys2Proof.Machine

/-! ### The unit table -/

section
variable (s : State)

theorem State.setContext_get_self (i : Fin 32) (x : Option Context) : (s.setContext i x).contexts[i] = x := by
  rw [State.setContext_get, if_pos rfl]

theorem State.setContext_get_of_ne {i j : Fin 32} (x : Option Context) (h : j ≠ i) :
    (s.setContext i x).contexts[j] = s.contexts[j] := by
  rw [State.setContext_get, if_neg h]

/-- A held slot stored again with the same granules. -/
theorem State.GranulesAccounted.setContext {s : State} (h : s.GranulesAccounted) {i : Fin 32} {c : Context}
    (hc : s.contexts[i] = some c) {d : Context} (hd : d.granules = c.granules) :
    (s.setContext i (some d)).GranulesAccounted := by
  have moved := heldGranules_set s i (some d)
  rw [hc, show slotGranules (some d) = slotGranules (some c) from hd, List.perm_append_left_iff] at moved
  exact (moved.append_left s.freeList).trans h

/-- Two held slots of one unit are one slot, when each slot holds no unit but the one it held. -/
theorem State.UnitsDistinct.mono {s t : State} (h : s.UnitsDistinct)
    (hc : ∀ (i : Fin 32) (d : Context), t.contexts[i] = some d → ∃ c, s.contexts[i] = some c ∧ d.uid = c.uid) :
    t.UnitsDistinct := by
  intro i j c d hi hj huid
  obtain ⟨c', hc', hcu⟩ := hc i c hi
  obtain ⟨d', hd', hdu⟩ := hc j d hj
  exact h i j c' d' hc' hd' (by rw [← hcu, huid, hdu])

/-- What a slot holds after a store of another context of the unit it held. -/
theorem State.held_of_setContext {i : Fin 32} {c d : Context} (hc : s.contexts[i] = some c) {P : Context → Context → Prop}
    (hd : P c d) (hrefl : ∀ x, P x x) (j : Fin 32) (e : Context) (h : (s.setContext i (some d)).contexts[j] = some e) :
    ∃ b, s.contexts[j] = some b ∧ P b e := by
  rw [State.setContext_get] at h
  split at h
  · next hj => cases h; subst hj; exact ⟨c, hc, hd⟩
  · exact ⟨e, h, hrefl e⟩

/-- A slot that stores a context of the unit and state it held holds what it held. -/
theorem State.HoldsIn.setContext {s : State} {i j : Fin 32} {c d : Context} {u : UnitId} {x : ContextState}
    (h : s.HoldsIn j u x) (hc : s.contexts[i] = some c) (hu : d.uid = c.uid) (hx : d.state = c.state) :
    (s.setContext i (some d)).HoldsIn j u x := by
  obtain ⟨b, hb, hbu, hbx⟩ := h
  by_cases hj : j = i
  · subst hj
    cases hb.symm.trans hc
    exact ⟨d, s.setContext_get_self j _, hu.trans hbu, hx.trans hbx⟩
  · exact ⟨b, (s.setContext_get_of_ne _ hj).trans hb, hbu, hbx⟩

/-- Another context of the unit, with the granules it had, is stored in a held slot. -/
theorem State.setContext_keepsStores (i : Fin 32) (c d : Context) (hc : s.contexts[i] = some c) (huid : d.uid = c.uid)
    (hgranules : d.granules = c.granules) : s.KeepsStores (s.setContext i (some d)) :=
  .of_table (fun _ => rfl) rfl rfl rfl rfl (fun h => h.congr rfl) (fun h => h.setContext hc hgranules)
    (fun h => h.mono (s.held_of_setContext hc huid fun _ => rfl))

theorem State.modifyContext_keepsStores (i : Fin 32) (f : Context → Context)
    (hf : ∀ c, (f c).uid = c.uid ∧ (f c).granules = c.granules) : s.KeepsStores (s.modifyContext i f) := by
  cases hc : s.contexts[i] with
  | none => rw [s.modifyContext_of_free i f hc]; exact .refl s
  | some c => rw [s.modifyContext_of_held i f c hc]; exact s.setContext_keepsStores i c (f c) hc (hf c).1 (hf c).2

/-- A change of a context that leaves its unit, its state and its granules. -/
theorem State.modifyContext_keeps (i : Fin 32) (f : Context → Context)
    (hf : ∀ c, (f c).uid = c.uid ∧ (f c).state = c.state ∧ (f c).granules = c.granules) : s.Keeps (s.modifyContext i f) := by
  refine ⟨s.modifyContext_keepsStores i f fun c => ⟨(hf c).1, (hf c).2.2⟩, fun h => ?_⟩
  cases hc : s.contexts[i] with
  | none => rw [s.modifyContext_of_free i f hc]; exact h
  | some c =>
    obtain ⟨huid, hstate, -⟩ := hf c
    rw [s.modifyContext_of_held i f c hc]
    exact h.of_held rfl rfl rfl (fun x hx _ => ⟨x.steps, hx⟩) le_rfl (fun j u x _ _ hh => hh.setContext hc huid hstate)
      (s.held_of_setContext hc (P := fun b e => b.state = .draining → e.state = .draining) (fun h => hstate.trans h)
        (fun _ => id))

/-- What a slot holds after a release. -/
theorem State.release_get (i j : Fin 32) : (s.release i).contexts[j] = if j = i then none else s.contexts[j] := by
  cases hc : s.contexts[i] with
  | none =>
    rw [s.release_of_free i hc]
    split
    · next h => rw [h, hc]
    · rfl
  | some c => rw [s.release_of_held i c hc]; exact s.setContext_get i j none

theorem State.release_sublist (i j : Fin 32) (d : Context) (h : (s.release i).contexts[j] = some d) :
    s.contexts[j] = some d := by
  rw [State.release_get] at h
  split at h
  · cases h
  · exact h

theorem State.GranulesAccounted.release {s : State} (h : s.GranulesAccounted) (i : Fin 32) : (s.release i).GranulesAccounted := by
  cases hc : s.contexts[i] with
  | none => rw [s.release_of_free i hc]; exact h
  | some c =>
    have moved := heldGranules_set s i none
    rw [hc, show slotGranules none = [] from rfl, List.nil_append] at moved
    rw [s.release_of_held i c hc]
    refine List.Perm.trans ?_ h
    change (s.freeList ++ c.granules ++ (s.setContext i none).heldGranules).Perm _
    rw [List.append_assoc]
    exact moved.append_left _

theorem State.UnitsDistinct.release {s : State} (h : s.UnitsDistinct) (i : Fin 32) : (s.release i).UnitsDistinct :=
  h.mono fun j d hd => ⟨d, s.release_sublist i j d hd, rfl⟩

theorem State.HoldsIn.release {s : State} {i j : Fin 32} {u : UnitId} {x : ContextState} (h : s.HoldsIn j u x) (hj : j ≠ i) :
    (s.release i).HoldsIn j u x := by
  obtain ⟨b, hb, hbu, hbx⟩ := h
  exact ⟨b, by rw [State.release_get, if_neg hj]; exact hb, hbu, hbx⟩

/-- What a release leaves as it stands, whether the slot is held or free. -/
theorem State.release_eq (i : Fin 32) : s.release i = { s with
    contexts := s.contexts.set i none, freeList := s.freeList ++ slotGranules s.contexts[i] } := by
  cases hc : s.contexts[i] with
  | some c => exact s.release_of_held i c hc
  | none =>
    have hsame : s.contexts.set i none = s.contexts := by
      rw [← hc]
      exact Vector.set_getElem_self _
    rw [s.release_of_free i hc, hsame, slotGranules, List.append_nil]

theorem State.release_keepsStores (i : Fin 32) : s.KeepsStores (s.release i) := by
  have hvotes : (s.release i).votes = s.votes := by rw [s.release_eq]
  exact .of_table (s.release_untouched i).sameProfiles (by rw [s.release_eq]) (by rw [s.release_eq])
    (by rw [s.release_eq]) (by rw [s.release_eq]) (fun h => h.congr hvotes) (fun h => h.release i) (fun h => h.release i)

/-- A DRAINING context is released. -/
theorem State.EnginesAgree.release {s : State} (h : s.EnginesAgree) {i : Fin 32} {c : Context} (hc : s.contexts[i] = some c)
    (hdraining : c.state = .draining) : (s.release i).EnginesAgree := by
  refine h.of_held (by rw [s.release_eq]) (by rw [s.release_eq]) (by rw [s.release_eq])
    (fun x hx _ => ⟨x.steps, by rw [s.release_eq] at hx; exact hx⟩) (by rw [s.release_eq]) ?_
    fun j d hj => ⟨d, s.release_sublist i j d hj, id⟩
  intro j u x hopen hdrain hh
  refine hh.release fun hj => hdrain ?_
  obtain ⟨b, hb, -, hbx⟩ := hh
  rw [hj, hc] at hb
  cases hb
  rw [← hbx, hdraining]

theorem Context.draining_of_done {c : Context} (h : c.done = true) : c.state = .draining := by
  simp only [Context.done, Bool.and_eq_true, beq_iff_eq] at h
  exact h.1.1

theorem State.releaseIfDone_keeps (i : Fin 32) : s.Keeps (s.releaseIfDone i) := by
  cases hc : s.contexts[i] with
  | none =>
    unfold State.releaseIfDone
    rw [hc]
    exact .refl s
  | some c =>
    by_cases hd : c.done = true
    · rw [s.releaseIfDone_of_done i c hc hd]
      exact ⟨s.release_keepsStores i, fun h => h.release hc (Context.draining_of_done hd)⟩
    · rw [s.releaseIfDone_of_not_done i c hc (Bool.not_eq_true _ ▸ hd)]
      exact .refl s

theorem State.onPosterContext_keeps (p : Poster) (f : Context → Context)
    (hf : ∀ c, (f c).uid = c.uid ∧ (f c).state = c.state ∧ (f c).granules = c.granules) :
    s.Keeps (s.onPosterContext p f) := by
  unfold State.onPosterContext
  split
  · exact s.modifyContext_keeps _ f hf
  · exact .refl s

/-! ### Postings -/

/-- Postings are dropped, and none is made. -/
theorem State.dropPostings_keeps (l : List Posting) (h : l.Sublist s.postings) : s.Keeps { s with postings := l } :=
  ⟨.of_engines (fun _ => rfl) rfl rfl rfl rfl rfl rfl rfl, fun ha => ha.of_held rfl rfl rfl (fun x hx _ => ⟨x.steps, h.subset hx⟩) (h.countP_le) (fun _ _ _ _ _ hh => hh)
      fun _ d hd => ⟨d, hd, id⟩⟩

/-- The feeding posting goes on with fewer steps. -/
theorem State.stepPosting_keeps (x : Posting) (rest : List Posting) (steps : List PostStep) (h : s.postings = x :: rest) :
    s.Keeps { s with postings := { x with steps := steps } :: rest } :=
  ⟨.of_engines (fun _ => rfl) rfl rfl rfl rfl rfl rfl rfl, fun ha => ha.of_held rfl rfl rfl
      (fun y hy _ => by
        rcases List.mem_cons.mp hy with rfl | hy
        · exact ⟨x.steps, h ▸ List.mem_cons_self⟩
        · exact ⟨y.steps, h ▸ List.mem_cons_of_mem _ hy⟩)
      (by rw [h, List.countP_cons, List.countP_cons]; exact le_rfl) (fun _ _ _ _ _ hh => hh) fun _ d hd => ⟨d, hd, id⟩⟩

/-- A posting begins that the fold engine does not make. -/
theorem State.beginPosting_keeps (p : Poster) (u : Option UnitId) (steps : List PostStep)
    (hp : Posting.byFold ⟨p, u, steps⟩ = false) : s.Keeps (s.beginPosting p u steps) :=
  ⟨.of_engines (fun _ => rfl) rfl rfl rfl rfl rfl rfl rfl, fun ha => ha.of_held rfl rfl rfl
      (fun x hx hfold => by
        rcases List.mem_append.mp hx with hx | hx
        · exact ⟨x.steps, hx⟩
        · rw [List.mem_singleton.mp hx, hp] at hfold
          cases hfold)
      (by rw [State.beginPosting_postings, List.countP_append, List.countP_singleton, hp]; exact le_rfl)
      (fun _ _ _ _ _ hh => hh) fun _ d hd => ⟨d, hd, id⟩⟩

theorem State.takeStep_keeps (x : Posting) (p : PostStep) (t : State) (h : s.takeStep x p = some t) : s.Keeps t := by
  have entered : ∀ (e : Entry) (f : Context → Context),
      (∀ c, (f c).uid = c.uid ∧ (f c).state = c.state ∧ (f c).granules = c.granules) →
      (if s.queueHasRoom then some ((s.enterEntry e).onPosterContext x.poster f) else none) = some t → s.Keeps t := by
    intro e f hf ht
    obtain ⟨hroom, ht⟩ := Option.ite_none_right_eq_some.mp ht
    cases ht
    exact (s.enterEntry_keeps e hroom).trans (State.onPosterContext_keeps _ x.poster f hf)
  unfold State.takeStep at h
  split at h
  · exact entered _ (Context.countChunk _) (fun _ => ⟨rfl, rfl, rfl⟩) h
  · exact entered _ Context.countEntry (fun _ => ⟨rfl, rfl, rfl⟩) h
  · exact s.acceptNotice_keeps _ t h
  · exact s.moveBacklog_keeps t h
  · cases h; exact .refl s
  · cases h; exact .refl s

end

end Sys2Proof.Machine

namespace Sys2Proof.Machine

/-! ### The end of a fold and the completion of a posting -/

/-- The fold engine becomes idle, and none of its postings is left. -/
theorem State.EnginesAgree.foldEnded {s t : State} (h : s.EnginesAgree) (hf : t.fold = none)
    (hp : ∀ x ∈ t.postings, x.byFold = false) (hc : t.contexts = s.contexts) (hr : t.repair = s.repair)
    (hq : t.repairQueue = s.repairQueue) : t.EnginesAgree where
  updating pass i e := by rw [hf] at e; cases e
  keeping pass i o e := by rw [hf] at e; cases e
  settling pass i o c e := by rw [hf] at e; cases e
  foldPosting i o u steps hx := nomatch (show true = false from hp _ hx)
  rawPosting pass clean u steps hx := nomatch (show true = false from hp _ hx)
  onePosting := by rw [List.countP_eq_zero.mpr fun x hx => by rw [hp x hx]; exact Bool.false_ne_true]; exact Nat.zero_le _
  searching i u cands syn n e := (h.searching i u cands syn n (hr ▸ e)).congr hc
  waiting i hi := by
    obtain ⟨u, hu⟩ := h.waiting i (hq ▸ hi)
    exact ⟨u, hu.congr hc⟩
  once := hq ▸ h.once

/-- The one posting of the fold engine is complete. -/
theorem State.EnginesAgree.rest_not_byFold {s : State} (h : s.EnginesAgree) {x : Posting} {rest : List Posting}
    (hp : s.postings = x :: rest) (hx : x.byFold = true) : ∀ y ∈ rest, y.byFold = false := by
  have hcount := h.onePosting
  rw [hp, List.countP_cons_of_pos hx] at hcount
  intro y hy
  exact Bool.not_eq_true _ ▸ List.countP_eq_zero.mp (by omega) y hy

/-- No posting of the fold engine is in progress while it is idle or in UPDATING. -/
theorem State.EnginesAgree.not_byFold {s : State} (h : s.EnginesAgree)
    (hf : s.fold = none ∨ ∃ pass i, s.fold = some ⟨pass, .updating i⟩) : ∀ x ∈ s.postings, x.byFold = false := by
  rintro ⟨poster, u, steps⟩ hx
  cases poster with
  | fold i o =>
    obtain ⟨pass, e, -⟩ := h.foldPosting i o u steps hx
    rw [e] at hf
    obtain hf | ⟨_, _, hf⟩ := hf <;> cases hf
  | raw pass clean =>
    obtain ⟨e, -⟩ := h.rawPosting pass clean u steps hx
    rw [e] at hf
    obtain hf | ⟨_, _, hf⟩ := hf <;> cases hf
  | repair i v => rfl
  | drain i => rfl
  | override r => rfl
  | backlog => rfl

/-- What is held in a slot other than the one stored. -/
theorem State.HoldsIn.setContext_of_ne {s : State} {i j : Fin 32} {u : UnitId} {x : ContextState} (h : s.HoldsIn j u x)
    (hj : j ≠ i) (y : Option Context) : (s.setContext i y).HoldsIn j u x := by
  obtain ⟨b, hb, hbu, hbx⟩ := h
  exact ⟨b, (s.setContext_get_of_ne _ hj).trans hb, hbu, hbx⟩

/-- Two states of a slot's context are one. -/
theorem State.HoldsIn.state_eq {s : State} {i : Fin 32} {u : UnitId} {x : ContextState} (h : s.HoldsIn i u x) {c : Context}
    (hc : s.contexts[i] = some c) : c.state = x := by
  obtain ⟨b, hb, -, hbx⟩ := h
  rw [hb] at hc
  cases hc
  exact hbx

/-- With the fold engine idle a slot that neither waits for repair nor is under repair may take any context. -/
theorem State.EnginesAgree.setContext_idle {s : State} (h : s.EnginesAgree) (hf : s.fold = none) {i : Fin 32}
    (hi : ∀ u x, s.HoldsIn i u x → x ≠ .repairWait ∧ x ≠ .repairing) (y : Option Context) :
    (s.setContext i y).EnginesAgree where
  updating pass j e := by rw [State.setContext_fold, hf] at e; cases e
  keeping pass j o e := by rw [State.setContext_fold, hf] at e; cases e
  settling pass j o c e := by rw [State.setContext_fold, hf] at e; cases e
  foldPosting := h.foldPosting
  rawPosting := h.rawPosting
  onePosting := h.onePosting
  searching j u cands syn n e := by
    have hh := h.searching j u cands syn n e
    exact hh.setContext_of_ne (fun hj => (hi u _ (hj ▸ hh)).2 rfl) y
  waiting j hj := by
    obtain ⟨u, hh⟩ := h.waiting j hj
    exact ⟨u, hh.setContext_of_ne (fun hji => (hi u _ (hji ▸ hh)).1 rfl) y⟩
  once := h.once

/-- A context in REPAIR_WAIT joins the repair queue. -/
theorem State.EnginesAgree.joinRepair {s : State} (h : s.EnginesAgree) {i : Fin 32} {u : UnitId} (hi : s.HoldsIn i u .repairWait)
    (hnew : i ∉ s.repairQueue) : { s with repairQueue := s.repairQueue ++ [i] }.EnginesAgree :=
  { h with
    waiting := fun j hj => by
      rcases List.mem_append.mp hj with hj | hj
      · exact h.waiting j hj
      · rw [List.mem_singleton.mp hj]; exact ⟨u, hi⟩
    once := by
      refine List.Nodup.append h.once (List.nodup_singleton i) (List.disjoint_singleton.mpr hnew) }

section
variable (s : State)

/-- The fold ends: its record is removed and its pass's buffer is FREE. -/
theorem State.endFold_of_some (r : FoldRecord) (h : s.fold = some r) : s.endFold = { s with
    lanes := s.lanes.set r.pass.lane (s.lanes[r.pass.lane].setBuffer r.pass.buffer .free)
    fold := none
    testDue := true } := by
  unfold State.endFold; rw [h]; rfl

theorem State.endFold_of_none (h : s.fold = none) : s.endFold = s := by
  unfold State.endFold; rw [h]

theorem State.endFold_keepsStores : s.KeepsStores s.endFold := by
  cases h : s.fold with
  | none => rw [s.endFold_of_none h]; exact .refl s
  | some r => rw [s.endFold_of_some r h]; exact .of_engines (fun _ => rfl) rfl rfl rfl rfl rfl rfl rfl

theorem State.endFold_keeps_of_none (h : ∀ x ∈ s.postings, x.byFold = false) : s.Keeps s.endFold := by
  refine ⟨s.endFold_keepsStores, fun ha => ?_⟩
  cases hf : s.fold with
  | none => rw [s.endFold_of_none hf]; exact ha
  | some r => rw [s.endFold_of_some r hf]; exact ha.foldEnded rfl h rfl rfl rfl

theorem State.bump_keeps (w : Fin 8) (c : Counter) : s.Keeps (s.bump w c) :=
  (s.setWindow_sameWork _ _).keeps (s.bump_untouched w c).sameProfiles

theorem State.setFlag_keeps (f : Flag) : s.Keeps (s.setFlag f) := (s.setFlag_sameWork f).keeps fun _ => rfl

theorem State.dueTest_keeps : s.Keeps s.dueTest := State.SameWork.keeps (by constructor <;> rfl) fun _ => rfl

theorem State.finalVerdict_keeps (u : UnitId) (v : Verdict) : s.Keeps (s.finalVerdict u v) := by
  refine State.SameWork.keeps ?_ (s.finalVerdict_untouched u v).sameProfiles
  rw [s.finalVerdict_eq]
  constructor <;> rfl

/-- The context and the queue of REPAIR after a fold's end: the last part of its completion. -/
def State.leaveFold (s : State) (i : Fin 32) (o : FoldOutcome) : State :=
  let t := s.modifyContext i (fun c => { c.endPosting with state := o.stateAfter })
  match o with
  | .repair => { t with repairQueue := t.repairQueue ++ [i] }
  | .opened => t
  | .good => t.releaseIfDone i
  | .agreed => t.releaseIfDone i
  | .exhausted => t.releaseIfDone i

theorem State.completeFold_eq (u : UnitId) (i : Fin 32) (o : FoldOutcome) :
    s.completeFold u i o = (s.endFold.bump u.window .passesFolded).leaveFold i o := rfl

theorem State.leaveFold_keepsStores (i : Fin 32) (o : FoldOutcome) : s.KeepsStores (s.leaveFold i o) := by
  have noted := s.modifyContext_keepsStores i (fun c => { c.endPosting with state := o.stateAfter }) fun _ => ⟨rfl, rfl⟩
  cases o with
  | good => exact noted.trans (State.releaseIfDone_keeps _ i).stores
  | agreed => exact noted.trans (State.releaseIfDone_keeps _ i).stores
  | exhausted => exact noted.trans (State.releaseIfDone_keeps _ i).stores
  | repair => exact noted.trans (.of_engines (fun _ => rfl) rfl rfl rfl rfl rfl rfl rfl)
  | opened => exact noted

/-- The context of an ended fold, FOLDING until now or DRAINING under a final outcome, takes the state of the outcome. -/
theorem State.EnginesAgree.leaveFold {s : State} (h : s.EnginesAgree) (hf : s.fold = none) (i : Fin 32) (o : FoldOutcome)
    (hkeep : o.final = false → ∃ u, s.HoldsIn i u .folding)
    (hfinal : o.final = true → ∀ c, s.contexts[i] = some c → c.state = .draining) : (s.leaveFold i o).EnginesAgree := by
  have idle : ∀ u x, s.HoldsIn i u x → x ≠ .repairWait ∧ x ≠ .repairing := by
    intro u x hx
    obtain ⟨c, hc, -, hcx⟩ := id hx
    cases ho : o.final with
    | true => rw [← hcx, hfinal ho c hc]; exact ⟨nofun, nofun⟩
    | false =>
      obtain ⟨v, hv⟩ := hkeep ho
      rw [← hcx, hv.state_eq hc]
      exact ⟨nofun, nofun⟩
  have noted : (s.modifyContext i (fun c => { c.endPosting with state := o.stateAfter })).EnginesAgree := by
    cases hc : s.contexts[i] with
    | none => rw [s.modifyContext_of_free i _ hc]; exact h
    | some c => rw [s.modifyContext_of_held i _ c hc]; exact h.setContext_idle hf idle _
  cases o with
  | good => exact (State.releaseIfDone_keeps _ i).engines noted
  | agreed => exact (State.releaseIfDone_keeps _ i).engines noted
  | exhausted => exact (State.releaseIfDone_keeps _ i).engines noted
  | opened => exact noted
  | repair =>
    obtain ⟨u, hu⟩ := hkeep rfl
    obtain ⟨c, hc, hcu, hcx⟩ := id hu
    have hnew : i ∉ s.repairQueue := fun hi => by
      obtain ⟨v, hv⟩ := h.waiting i hi
      exact (idle v _ hv).1 rfl
    refine noted.joinRepair (u := u) ⟨{ c.endPosting with state := .repairWait }, ?_, hcu, rfl⟩ ?_
    · rw [s.modifyContext_of_held i _ c hc, State.setContext_get_self]; rfl
    · rw [s.modifyContext_of_held i _ c hc]; exact hnew

/-- The feeding posting is complete. -/
theorem State.completePosting_keeps (x : Posting) (rest : List Posting) (h : s.postings = x :: rest) :
    s.Keeps ({ s with postings := rest }.completePosting x) := by
  have dropped : s.Keeps { s with postings := rest } := s.dropPostings_keeps rest (h ▸ List.sublist_cons_self x rest)
  have ended : ∀ (t : State) (i : Fin 32), t.Keeps (((t.modifyContext i Context.endPosting).releaseIfDone i).dueTest) :=
    fun t i => ((t.modifyContext_keeps i Context.endPosting fun _ => ⟨rfl, rfl, rfl⟩).trans
      (State.releaseIfDone_keeps _ i)).trans (State.dueTest_keeps _)
  obtain ⟨poster, owner, steps⟩ := x
  cases poster with
  | fold i o =>
    cases owner with
    | none => exact dropped
    | some u =>
      change s.Keeps ((State.bump (State.endFold { s with postings := rest }) u.window .passesFolded).leaveFold i o).dueTest
      refine State.Keeps.trans ⟨?_, fun ha => ?_⟩ (State.dueTest_keeps _)
      · exact ((dropped.stores.trans (State.endFold_keepsStores _)).trans (State.bump_keeps _ _ _).stores).trans
          (State.leaveFold_keepsStores _ i o)
      · have hmem : ⟨.fold i o, some u, steps⟩ ∈ s.postings := h ▸ List.mem_cons_self
        obtain ⟨pass, hfold, -⟩ := ha.foldPosting i o (some u) steps hmem
        have hidle := State.endFold_keeps_of_none { s with postings := rest } (ha.rest_not_byFold h rfl)
        have hend : (State.bump (State.endFold { s with postings := rest }) u.window .passesFolded).fold = none
            ∧ (State.bump (State.endFold { s with postings := rest }) u.window .passesFolded).contexts = s.contexts := by
          rw [State.endFold_of_some { s with postings := rest } _ hfold]
          exact ⟨rfl, rfl⟩
        refine ((dropped.trans hidle).trans (State.bump_keeps _ _ _)).engines ha |>.leaveFold hend.1 i o ?_ ?_
        · exact fun ho => ⟨_, (ha.keeping pass i o hfold ho).congr hend.2⟩
        · intro ho c hc
          rw [hend.2] at hc
          exact ha.settling pass i o c hfold ho hc
  | raw pass clean =>
    refine State.Keeps.trans ⟨dropped.stores.trans (State.endFold_keepsStores _), fun ha => ?_⟩ (State.dueTest_keeps _)
    exact (dropped.trans (State.endFold_keeps_of_none { s with postings := rest } (ha.rest_not_byFold h rfl))).engines ha
  | repair i v =>
    have idle : { s with postings := rest }.Keeps { s with postings := rest, repair := none } :=
      ⟨.of_engines (fun _ => rfl) rfl rfl rfl rfl rfl rfl rfl, fun ha => { ha with searching := fun _ _ _ _ _ => nofun }⟩
    exact (dropped.trans idle).trans (ended _ i)
  | drain i => exact dropped.trans (ended _ i)
  | override r => exact dropped.trans (State.dueTest_keeps _)
  | backlog => cases owner <;> exact dropped

theorem State.modifyContext_postings (i : Fin 32) (f : Context → Context) : (s.modifyContext i f).postings = s.postings := by
  unfold State.modifyContext
  split <;> rfl

theorem State.onPosterContext_postings (p : Poster) (f : Context → Context) :
    (s.onPosterContext p f).postings = s.postings := by
  unfold State.onPosterContext
  split
  · exact s.modifyContext_postings _ f
  · rfl

/-- A taken step leaves the order of postings to its caller. -/
theorem State.takeStep_postings (x : Posting) (p : PostStep) (t : State) (h : s.takeStep x p = some t) :
    t.postings = s.postings := by
  have entered : ∀ (e : Entry) (f : Context → Context),
      (if s.queueHasRoom then some ((s.enterEntry e).onPosterContext x.poster f) else none) = some t →
      t.postings = s.postings := by
    intro e f ht
    obtain ⟨-, ht⟩ := Option.ite_none_right_eq_some.mp ht
    cases ht
    exact State.onPosterContext_postings _ x.poster f
  unfold State.takeStep at h
  split at h
  · exact entered _ _ h
  · exact entered _ _ h
  · unfold State.acceptNotice at h
    split at h
    · cases h; rfl
    · obtain ⟨-, ht⟩ := Option.ite_none_right_eq_some.mp h
      cases ht; rfl
    · cases h; rfl
    · cases h; rfl
  · unfold State.moveBacklog at h
    split at h
    · cases h; rfl
    · obtain ⟨-, ht⟩ := Option.ite_none_right_eq_some.mp h
      cases ht; rfl
  · cases h; rfl
  · cases h; rfl

/-- A taken feeding step; `feed_some` says what it can be. -/
theorem State.feed_keeps (t : State) (h : s.feed = some t) : s.Keeps t := by
  obtain ⟨x, rest, hp, ⟨-, rfl⟩ | ⟨p, steps, u, -, hu, hcase⟩⟩ := s.feed_some t h
  · exact s.completePosting_keeps x rest hp
  · have stepped := s.takeStep_keeps x p u hu
    have hup : u.postings = x :: rest := (s.takeStep_postings x p u hu).trans hp
    obtain ⟨-, rfl⟩ | ⟨-, rfl⟩ := hcase
    · exact stepped.trans (u.completePosting_keeps x rest hup)
    · exact stepped.trans (u.stepPosting_keeps x rest steps hup)

end

end Sys2Proof.Machine

namespace Sys2Proof.Machine

/-! ### Tallies in range -/

theorem putGranule_inRange (g : Nat) {cells : List Cell} (hc : ∀ c ∈ cells, -7 ≤ c.tally ∧ c.tally ≤ 7)
    {v : List (Nat × List Cell)} (hv : TalliesInRange v) : TalliesInRange (putGranule g cells v) := by
  unfold putGranule
  split
  · exact hv
  · exact List.forall_mem_cons.mpr ⟨hc, hv⟩

theorem writeGranule_inRange (g : Nat) {cells : List Cell} (hc : ∀ c ∈ cells, -7 ≤ c.tally ∧ c.tally ≤ 7) :
    ∀ v : List (Nat × List Cell), TalliesInRange v → TalliesInRange (writeGranule g cells v)
  | [], hv => putGranule_inRange g hc hv
  | (k, old) :: v, hv => by
    have parts := List.forall_mem_cons.mp hv
    rw [writeGranule_cons]
    split
    · exact putGranule_inRange g hc hv
    · split
      · exact putGranule_inRange g hc parts.2
      · exact List.forall_mem_cons.mpr ⟨parts.1, writeGranule_inRange g hc v parts.2⟩

theorem zeroGranule_inRange : ∀ c ∈ zeroGranule, -7 ≤ c.tally ∧ c.tally ≤ 7 := by
  intro c hc
  rw [List.eq_of_mem_replicate hc]
  decide

theorem readGranule_inRange (g : Nat) : ∀ v : List (Nat × List Cell), TalliesInRange v →
    ∀ c ∈ readGranule g v, -7 ≤ c.tally ∧ c.tally ≤ 7
  | [], _ => zeroGranule_inRange
  | (k, old) :: v, hv => by
    have parts := List.forall_mem_cons.mp hv
    rw [readGranule_cons]
    split
    · exact parts.1
    · exact readGranule_inRange g v parts.2

theorem updateCells_inRange (w : Nat) : ∀ (cells : List Cell) (bits : List Bool),
    (∀ c ∈ cells, -7 ≤ c.tally ∧ c.tally ≤ 7) → ∀ c ∈ updateCells w cells bits, -7 ≤ c.tally ∧ c.tally ≤ 7
  | [], [], h => h
  | [], _ :: _, h => h
  | _ :: _, [], h => h
  | c :: cells, b :: bits, h =>
    List.forall_mem_cons.mpr ⟨c.update_range w b, updateCells_inRange w cells bits (List.forall_mem_cons.mp h).2⟩

theorem clearGranules_good (gs : List Nat) (v : List (Nat × List Cell)) (h : TalliesInRange v) :
    TalliesInRange (clearGranules gs v) := by
  induction gs generalizing v with
  | nil => exact h
  | cons g gs ih => exact ih _ (writeGranule_inRange g zeroGranule_inRange v h)

theorem updateGranules_inRange (w : Nat) (gs : List Nat) (bits : List Bool) (v : List (Nat × List Cell))
    (h : TalliesInRange v) : TalliesInRange (updateGranules w gs bits v) := by
  induction gs generalizing bits v with
  | nil => exact h
  | cons g gs ih => exact ih _ _ (writeGranule_inRange g (updateCells_inRange w _ _ (readGranule_inRange g v h)) v h)

/-! ### Fold start and settle evaluation -/

section
variable (s : State)

/-- A fold start on a held context, part by part. -/
theorem State.beginUpdating_eq (p : StagedPass) (i : Fin 32) (c : Context) (hc : s.contexts[i] = some c) :
    s.beginUpdating p i = { s with
      repairQueue := s.repairQueue.filter (· != i)
      repair := s.repair.filter (fun r => r.slot != i)
      contexts := s.contexts.set i (some { c with state := .folding })
      fold := some ⟨p, .updating i⟩ } := by
  have noted : ∀ t : State, t.contexts = s.contexts →
      { t.modifyContext i (fun c => { c with state := .folding }) with fold := some ⟨p, .updating i⟩ }
        = { t with contexts := s.contexts.set i (some { c with state := .folding }), fold := some ⟨p, .updating i⟩ } := by
    intro t ht
    rw [t.modifyContext_of_held i _ c (by rw [ht, hc]), ← ht]
    rfl
  unfold State.beginUpdating
  cases hr : s.repair with
  | none => exact noted _ rfl
  | some r =>
    by_cases hi : r.slot = i
    · simp only [hi, if_true, Option.filter_some, bne_self_eq_false, Bool.false_eq_true, if_false]
      exact noted _ rfl
    · simp only [hi, if_false, Option.filter_some, bne_iff_ne.mpr hi, if_true]
      exact noted _ rfl

/-- A fold start takes the context out of the repair engine's hands. -/
theorem State.EnginesAgree.beginUpdating {s : State} (h : s.EnginesAgree) (hf : s.fold = none) (p : StagedPass) {i : Fin 32}
    {c : Context} (hc : s.contexts[i] = some c) (hu : c.uid = p.uid) : (s.beginUpdating p i).EnginesAgree := by
  have idle := h.not_byFold (.inl hf)
  have others : ∀ {j : Fin 32} {u : UnitId} {x : ContextState}, j ≠ i → s.HoldsIn j u x →
      (s.setContext i (some { c with state := .folding })).HoldsIn j u x := fun hj hh => hh.setContext_of_ne hj _
  rw [s.beginUpdating_eq p i c hc]
  exact {
    updating := fun pass j e => by
      cases e
      exact ⟨{ c with state := .folding }, s.setContext_get_self i _, hu, rfl⟩
    keeping := fun pass j o e => nomatch e
    settling := fun pass j o d e => nomatch e
    foldPosting := fun j o u steps hx => nomatch (show true = false from idle _ hx)
    rawPosting := fun pass clean u steps hx => nomatch (show true = false from idle _ hx)
    onePosting := h.onePosting
    searching := fun j u cands syn n e => by
      obtain ⟨e, hj⟩ := Option.filter_eq_some_iff.mp e
      exact others (bne_iff_ne.mp hj) (h.searching j u cands syn n e)
    waiting := fun j hj => by
      obtain ⟨hj, hji⟩ := List.mem_filter.mp hj
      obtain ⟨u, hu⟩ := h.waiting j hj
      exact ⟨u, others (bne_iff_ne.mp hji) hu⟩
    once := h.once.filter _ }

theorem State.beginUpdating_keeps (p : StagedPass) (i : Fin 32) (c : Context) (hf : s.fold = none)
    (hc : s.contexts[i] = some c) (hu : c.uid = p.uid) : s.Keeps (s.beginUpdating p i) := by
  refine ⟨?_, fun h => h.beginUpdating hf p hc hu⟩
  rw [s.beginUpdating_eq p i c hc]
  exact (s.setContext_keepsStores i c { c with state := .folding } hc rfl rfl).trans
    (.of_engines (fun _ => rfl) rfl rfl rfl rfl rfl rfl rfl)

/-- A context of a unit without one is stored in a free slot, with granules from the head of the free list. -/
theorem State.GranulesAccounted.admission {s : State} (h : s.GranulesAccounted) (p : StagedPass) {i : Fin 32}
    (hi : s.contexts[i] = none) : (s.admission p i).GranulesAccounted := by
  have moved := heldGranules_set s i (some (Context.admitted p.uid (s.freeList.take (s.profile p.uid.window).granuleCount)))
  rw [hi, show slotGranules none = [] from rfl, List.nil_append] at moved
  refine List.Perm.trans (moved.append_left _) ?_
  refine List.Perm.trans ?_ h
  rw [← List.append_assoc]
  refine List.Perm.append_right _ ?_
  exact List.perm_append_comm.trans (List.Perm.of_eq (List.take_append_drop _ _))

theorem State.UnitsDistinct.admission {s : State} (h : s.UnitsDistinct) (p : StagedPass) {i : Fin 32}
    (hu : s.findContext p.uid = none) : (s.admission p i).UnitsDistinct := by
  have hnew := (s.findContext_none p.uid).mp hu
  intro j k c d hj hk huid
  change (s.setContext i _).contexts[j] = some c at hj
  change (s.setContext i _).contexts[k] = some d at hk
  rw [State.setContext_get] at hj hk
  split at hj <;> split at hk
  · next h1 h2 => rw [h1, h2]
  · cases hj; exact absurd huid.symm (hnew k d hk)
  · cases hk; exact absurd huid (hnew j c hj)
  · exact h j k c d hj hk huid

theorem State.admission_keeps (p : StagedPass) (i : Fin 32) (hf : s.fold = none) (hi : s.contexts[i] = none)
    (hu : s.findContext p.uid = none) : s.Keeps (s.admission p i) := by
  refine ⟨.of_table (fun _ => rfl) rfl rfl rfl rfl
    (fun h => ⟨clearGranules_wf _ _ h.form, clearGranules_good _ _ h.range⟩) (fun h => h.admission p hi)
    (fun h => h.admission p hu), fun h => ?_⟩
  have idle := h.not_byFold (.inl hf)
  have held : ∀ {j : Fin 32} {u : UnitId} {x : ContextState}, s.HoldsIn j u x → (s.admission p i).HoldsIn j u x := by
    intro j u x hh
    refine hh.setContext_of_ne (fun hj => ?_) _
    obtain ⟨b, hb, -⟩ := hh
    rw [hj, hi] at hb
    cases hb
  exact {
    updating := fun pass j e => by
      cases e
      exact ⟨_, s.setContext_get_self i _, rfl, rfl⟩
    keeping := fun pass j o e => nomatch e
    settling := fun pass j o d e => nomatch e
    foldPosting := fun j o u steps hx => nomatch (show true = false from idle _ hx)
    rawPosting := fun pass clean u steps hx => nomatch (show true = false from idle _ hx)
    onePosting := h.onePosting
    searching := fun j u cands syn n e => held (h.searching j u cands syn n e)
    waiting := fun j hj => (h.waiting j hj).imp fun _ => held
    once := h.once }

/-- A posting of the fold engine begins with the phase that makes it. -/
theorem State.EnginesAgree.beginFoldPosting {s t : State} (h : s.EnginesAgree)
    (hidle : ∀ x ∈ s.postings, x.byFold = false) {x : Posting} (hp : t.postings = s.postings ++ [x])
    (hc : t.contexts = s.contexts) (hr : t.repair = s.repair) (hq : t.repairQueue = s.repairQueue) (hx : x.byFold = true)
    (hfold : ∀ i o u steps, x = ⟨.fold i o, u, steps⟩ → ∃ pass, t.fold = some ⟨pass, .posting i o⟩ ∧ u = some pass.uid
      ∧ (o.final = false → s.HoldsIn i pass.uid .folding)
      ∧ (o.final = true → ∀ c, s.contexts[i] = some c → c.state = .draining))
    (hraw : ∀ pass clean u steps, x = ⟨.raw pass clean, u, steps⟩ → t.fold = some ⟨pass, .raw clean⟩ ∧ u = some pass.uid) :
    t.EnginesAgree := by
  have only : ∀ y ∈ t.postings, y.byFold = true → y = x := by
    intro y hy hyf
    rw [hp] at hy
    rcases List.mem_append.mp hy with hy | hy
    · rw [hidle y hy] at hyf; cases hyf
    · exact List.mem_singleton.mp hy
  have phase : ∀ r, t.fold = some r → (∃ i o, r.phase = .posting i o ∧ (o.final = false → s.HoldsIn i r.pass.uid .folding)
      ∧ (o.final = true → ∀ c, s.contexts[i] = some c → c.state = .draining)) ∨ ∃ clean, r.phase = .raw clean := by
    intro r hr'
    obtain ⟨poster, u, steps⟩ := x
    cases poster with
    | fold i o =>
      obtain ⟨pass, e, -, hkeep, hfinal⟩ := hfold i o u steps rfl
      rw [e] at hr'
      cases hr'
      exact .inl ⟨i, o, rfl, hkeep, hfinal⟩
    | raw pass clean =>
      obtain ⟨e, -⟩ := hraw pass clean u steps rfl
      rw [e] at hr'
      cases hr'
      exact .inr ⟨clean, rfl⟩
    | _ => cases hx
  exact {
    updating := fun pass i e => by
      obtain ⟨_, _, e', -⟩ | ⟨_, e'⟩ := phase _ e <;> cases e'
    keeping := fun pass i o e ho => by
      obtain ⟨_, _, e', hkeep, -⟩ | ⟨_, e'⟩ := phase _ e <;> cases e'
      exact (hkeep ho).congr hc
    settling := fun pass i o c e ho hci => by
      obtain ⟨_, _, e', -, hfinal⟩ | ⟨_, e'⟩ := phase _ e <;> cases e'
      exact hfinal ho c (hc ▸ hci)
    foldPosting := fun i o u steps hy => by
      obtain ⟨pass, e, hu, -⟩ := hfold i o u steps (only _ hy rfl).symm
      exact ⟨pass, e, hu⟩
    rawPosting := fun pass clean u steps hy => hraw pass clean u steps (only _ hy rfl).symm
    onePosting := by
      rw [hp, List.countP_append, List.countP_singleton, hx,
        List.countP_eq_zero.mpr fun y hy => by rw [hidle y hy]; exact Bool.false_ne_true]
      exact le_rfl
    searching := fun j u cands syn n e => (h.searching j u cands syn n (hr ▸ e)).congr hc
    waiting := fun j hj => (h.waiting j (hq ▸ hj)).imp fun _ hh => hh.congr hc
    once := hq ▸ h.once }

theorem State.deny_keeps (p : StagedPass) (hf : s.fold = none) : s.Keeps (s.deny p) := by
  have noted := (s.bump_keeps p.uid.window .denials).trans (State.setFlag_keeps _ .denied)
  refine ⟨noted.stores.trans (.of_engines (fun _ => rfl) rfl rfl rfl rfl rfl rfl rfl), fun h => ?_⟩
  exact (noted.engines h).beginFoldPosting (h.not_byFold (.inl hf)) rfl rfl rfl rfl rfl (fun _ _ _ _ e => nomatch e)
    fun pass clean u steps e => by cases e; exact ⟨rfl, rfl⟩

theorem State.tryAdmit_keeps (p : StagedPass) (hf : s.fold = none) (hu : s.findContext p.uid = none) :
    s.Keeps (s.tryAdmit p) := by
  unfold State.tryAdmit
  split
  · next i hi =>
    split
    · exact s.admission_keeps p i hf (s.freeSlot_some i hi) hu
    · exact s.deny_keeps p hf
  · exact s.deny_keeps p hf

theorem State.lateDiscard_keeps (p : StagedPass) : s.Keeps (s.lateDiscard p) :=
  State.SameWork.keeps (by constructor <;> rfl) (s.lateDiscard_untouched p).sameProfiles

/-- The three checks of a fold start. -/
theorem State.foldChecks_keeps (p : StagedPass) (hf : s.fold = none) : s.Keeps (s.foldChecks p) := by
  unfold State.foldChecks
  split
  · exact s.lateDiscard_keeps p
  · split
    · next hu => exact s.tryAdmit_keeps p hf hu
    · next i hi =>
      obtain ⟨c, hc, hu⟩ := s.findContext_some p.uid i hi
      rw [hc]
      dsimp only
      split
      · exact s.lateDiscard_keeps p
      · exact s.beginUpdating_keeps p i c hf hc hu

theorem State.fold_of_due (h : s.foldDue = true) : s.fold = none := by
  unfold State.foldDue at h
  exact beq_iff_eq.mp (Bool.and_eq_true_iff.mp h).1

theorem State.foldStart_keeps (h : s.foldDue = true) : s.Keeps s.foldStart := by
  unfold State.foldStart
  split
  · exact .refl s
  · next p rest _ =>
    have shorter : s.Keeps { s with foldQueue := rest } := State.SameWork.keeps (by constructor <;> rfl) fun _ => rfl
    exact shorter.trans (State.foldChecks_keeps _ p (s.fold_of_due h))

/-- A fold goes from UPDATING to POSTING, its context FOLDING or DRAINING as the outcome says. -/
theorem State.EnginesAgree.evaluate {s t : State} (h : s.EnginesAgree) {pass : StagedPass} {i : Fin 32} {c : Context}
    (hf : s.fold = some ⟨pass, .updating i⟩) (hc : s.contexts[i] = some c) {w : FoldWork} {steps : List PostStep}
    (hcontexts : t.contexts = s.contexts.set i (some (c.evaluated w)))
    (hfold : t.fold = some ⟨pass, .posting i w.outcome⟩) (hr : t.repair = s.repair) (hq : t.repairQueue = s.repairQueue)
    (hp : t.postings = s.postings ++ [⟨.fold i w.outcome, some pass.uid, steps⟩]) : t.EnginesAgree := by
  obtain ⟨d, hd, huid, hfolding⟩ := h.updating pass i hf
  cases hd.symm.trans hc
  have idle := h.not_byFold (.inr ⟨pass, i, hf⟩)
  have ended : { s with fold := none }.EnginesAgree := h.foldEnded rfl idle rfl rfl rfl
  have stored : (State.setContext { s with fold := none } i (some (c.evaluated w))).EnginesAgree := by
    refine ended.setContext_idle rfl (fun u x hx => ?_) _
    rw [← hx.state_eq hc, hfolding]
    exact ⟨nofun, nofun⟩
  refine stored.beginFoldPosting idle hp hcontexts hr hq rfl ?_ fun _ _ _ _ e => nomatch e
  intro j o u steps' e
  cases e
  have hget : (State.setContext { s with fold := none } i (some (c.evaluated w))).contexts[i] = some (c.evaluated w) :=
    State.setContext_get_self _ i _
  refine ⟨pass, hfold, rfl, fun ho => ⟨_, hget, huid, ?_⟩, fun ho e he => ?_⟩
  · simp [Context.evaluated, ho]
  · rw [hget] at he
    cases he
    simp [Context.evaluated, ho]

/-- The settle evaluation, part by part. -/
theorem State.evaluate_eq (pass : StagedPass) (i : Fin 32) (c : Context) (w : FoldWork)
    (hw : w = foldWork (s.profile pass.uid.window) s.votes c (s.passContent pass)) :
    s.evaluate pass i c = { s with
      contexts := s.contexts.set i (some (c.evaluated w))
      votes := w.votes
      fold := some ⟨pass, .posting i w.outcome⟩
      windows := if w.outcome.final then s.windows.set pass.uid.window { s.windows[pass.uid.window] with
          settled := insertAsc pass.uid.unit s.windows[pass.uid.window].settled
          counters := s.windows[pass.uid.window].counters.bump w.outcome.verdict.counter } else s.windows
      flags := if w.outcome.final then s.flags ||| w.outcome.verdict.flag.mask else s.flags
      postings := s.postings ++ [⟨.fold i w.outcome, some pass.uid, foldSteps w⟩] } := by
  subst hw
  unfold State.evaluate
  dsimp only
  cases FoldOutcome.final _ with
  | true => rw [if_pos rfl, State.finalVerdict_eq]; rfl
  | false => rfl

theorem State.evaluate_keeps (pass : StagedPass) (i : Fin 32) (c : Context) (hf : s.fold = some ⟨pass, .updating i⟩)
    (hc : s.contexts[i] = some c) : s.Keeps (s.evaluate pass i c) := by
  have profiles := (s.evaluate_untouched pass i c).sameProfiles
  obtain ⟨w, hw⟩ : ∃ w, w = foldWork (s.profile pass.uid.window) s.votes c (s.passContent pass) := ⟨_, rfl⟩
  have parts := s.evaluate_eq pass i c w hw
  refine ⟨.of_table profiles (by rw [parts]) (by rw [parts]) (by rw [parts]) (by rw [parts])
    (fun h => ?votes) (fun h => ?granules) (fun h => ?units),
    fun h => h.evaluate hf hc (by rw [parts]) (by rw [parts]) (by rw [parts]) (by rw [parts]) (by rw [parts])⟩
  case votes =>
    rw [parts, hw]
    exact ⟨updateGranules_wf _ _ _ _ h.form, updateGranules_inRange _ _ _ _ h.range⟩
  case granules => exact (h.setContext hc (d := c.evaluated w) rfl).congr (by rw [parts]; rfl) (by rw [parts]; rfl)
  case units => exact (h.mono (s.held_of_setContext hc (d := c.evaluated w) rfl fun _ => rfl)).congr (by rw [parts]; rfl)

end

end Sys2Proof.Machine

namespace Sys2Proof.Machine

/-! ### The repair engine and the drain's verdicts -/

/-- A held slot that the engines do not name may take any context, but a DRAINING one stays so. -/
theorem State.EnginesAgree.setContext_unnamed {s : State} (h : s.EnginesAgree) {i : Fin 32} {c : Context}
    (hc : s.contexts[i] = some c) (y : Option Context) (hfold : c.state ≠ .folding) (hqueue : i ∉ s.repairQueue)
    (hrepair : ∀ u cands syn n, s.repair ≠ some ⟨i, u, .searching cands syn n⟩)
    (hdrain : ∀ d, c.state = .draining → y = some d → d.state = .draining) : (s.setContext i y).EnginesAgree :=
  { h with
    updating := fun pass j e => by
      have hh := h.updating pass j e
      refine hh.setContext_of_ne (fun hj => hfold ?_) y
      subst hj
      exact hh.state_eq hc
    keeping := fun pass j o e ho => by
      have hh := h.keeping pass j o e ho
      refine hh.setContext_of_ne (fun hj => hfold ?_) y
      subst hj
      exact hh.state_eq hc
    settling := fun pass j o d e ho hd => by
      rw [State.setContext_get] at hd
      split at hd
      · next hj =>
        subst hj
        exact hdrain d (h.settling pass j o c e ho hc) hd
      · exact h.settling pass j o d e ho hd
    searching := fun j u cands syn n e => by
      refine (h.searching j u cands syn n e).setContext_of_ne (fun hj => ?_) y
      subst hj
      exact hrepair u cands syn n e
    waiting := fun j hj => by
      refine (h.waiting j hj).imp fun _ hh => hh.setContext_of_ne (fun hji => ?_) y
      subst hji
      exact hqueue hj }

section
variable (s : State)

/-- The repair engine takes a held context. -/
theorem State.repairTake_of_held (i : Fin 32) (rest : List (Fin 32)) (c : Context) (hq : s.repairQueue = i :: rest)
    (hc : s.contexts[i] = some c) : s.repairTake = { s with
      repairQueue := rest
      contexts := s.contexts.set i (some { c with state := .repairing })
      repair := some ⟨i, c.uid, .searching
        (candidates (s.profile c.uid.window) (unitCells (s.profile c.uid.window) c.granules s.votes))
        (syndrome (s.profile c.uid.window) ((unitCells (s.profile c.uid.window) c.granules s.votes).map Cell.fused)) 0⟩ } := by
  unfold State.repairTake
  rw [hq]
  simp only [hc]
  rfl

theorem State.repairTake_of_free (i : Fin 32) (rest : List (Fin 32)) (hq : s.repairQueue = i :: rest)
    (hc : s.contexts[i] = none) : s.repairTake = { s with repairQueue := rest } := by
  unfold State.repairTake
  rw [hq]
  simp only [hc]

/-- The head leaves the repair queue. -/
theorem State.EnginesAgree.popRepair {s : State} (h : s.EnginesAgree) {i : Fin 32} {rest : List (Fin 32)}
    (hq : s.repairQueue = i :: rest) : { s with repairQueue := rest }.EnginesAgree :=
  { h with
    waiting := fun j hj => h.waiting j (hq ▸ List.mem_cons_of_mem i hj)
    once := (List.nodup_cons.mp (hq ▸ h.once)).2 }

theorem State.repairDue_iff : s.repairDue = true ↔ s.repair = none ∧ s.repairQueue ≠ [] := by
  simp [State.repairDue]

theorem State.repairTake_keeps (hdue : s.repairDue = true) : s.Keeps s.repairTake := by
  obtain ⟨hr, hne⟩ := s.repairDue_iff.mp hdue
  obtain ⟨i, rest, hq⟩ := List.exists_cons_of_ne_nil hne
  cases hc : s.contexts[i] with
  | none =>
    rw [s.repairTake_of_free i rest hq hc]
    exact ⟨.of_engines (fun _ => rfl) rfl rfl rfl rfl rfl rfl rfl, fun h => h.popRepair hq⟩
  | some c =>
    rw [s.repairTake_of_held i rest c hq hc]
    refine ⟨(s.setContext_keepsStores i c { c with state := .repairing } hc rfl rfl).trans
      (.of_engines (fun _ => rfl) rfl rfl rfl rfl rfl rfl rfl), fun h => ?_⟩
    obtain ⟨u, hu⟩ := h.waiting i (hq ▸ List.mem_cons_self)
    have hstate : c.state = .repairWait := hu.state_eq hc
    have stored : (State.setContext { s with repairQueue := rest } i (some { c with state := .repairing })).EnginesAgree := by
      refine (h.popRepair hq).setContext_unnamed hc _ (by rw [hstate]; nofun) (List.nodup_cons.mp (hq ▸ h.once)).1 ?_
        fun d hd => by rw [hstate] at hd; cases hd
      exact fun u cands syn n e => nomatch hr.symm.trans e
    exact { stored with
      searching := fun j u cands syn n e => by
        cases e
        exact ⟨_, s.setContext_get_self i _, rfl, rfl⟩ }

theorem State.searchOn_keeps : s.Keeps s.searchOn := by
  unfold State.searchOn
  split
  · exact .refl s
  · next r hr =>
    split
    · next cands syn n hphase =>
      split
      · refine ⟨.of_engines (fun _ => rfl) rfl rfl rfl rfl rfl rfl rfl, fun h => { h with searching := ?_ }⟩
        intro i u cands' syn' n' e
        cases e
        exact h.searching r.slot r.uid cands syn n (by rw [hr, ← hphase])
      · exact .refl s
    · exact .refl s

/-- A search ends: the context it names leaves REPAIRING. -/
theorem State.endRepair_keeps {i : Fin 32} {u : UnitId} {cands : List Nat} {syn : BitVec 32} {n : Nat} {c d : Context}
    {r : Option RepairRecord} (hr : s.repair = some ⟨i, u, .searching cands syn n⟩) (hc : s.contexts[i] = some c)
    (huid : d.uid = c.uid) (hgranules : d.granules = c.granules)
    (hposts : ∀ j v cands syn n, r ≠ some ⟨j, v, .searching cands syn n⟩) :
    s.Keeps { s.setContext i (some d) with repair := r } := by
  refine ⟨(s.setContext_keepsStores i c d hc huid hgranules).trans
    (.of_engines (fun _ => rfl) rfl rfl rfl rfl rfl rfl rfl), fun h => ?_⟩
  have hstate : c.state = .repairing := (h.searching i u cands syn n hr).state_eq hc
  have ended : { s with repair := r }.EnginesAgree :=
    { h with searching := fun j v cands syn n e => absurd e (hposts j v cands syn n) }
  refine ended.setContext_unnamed (i := i) hc (some d) (by rw [hstate]; nofun) (fun hi => ?_) (hposts i)
    fun e hd => by rw [hstate] at hd; cases hd
  obtain ⟨v, hv⟩ := h.waiting i hi
  have hwait := hv.state_eq hc
  rw [hstate] at hwait
  cases hwait

/-- A final repair result, part by part. -/
theorem State.finishRepair_eq (i : Fin 32) (c : Context) (v : Verdict) : s.finishRepair i c v = { s with
    contexts := s.contexts.set i (some { c with state := .draining, posting := true })
    repair := some ⟨i, c.uid, .posting v⟩
    windows := s.windows.set c.uid.window { s.windows[c.uid.window] with
      settled := insertAsc c.uid.unit s.windows[c.uid.window].settled
      counters := s.windows[c.uid.window].counters.bump v.counter }
    flags := s.flags ||| v.flag.mask
    postings := s.postings ++ [⟨.repair i v, some c.uid, repairSteps v c.dirty⟩] } := by
  unfold State.finishRepair
  dsimp only
  rw [State.finalVerdict_eq]
  rfl

theorem State.finishRepair_keeps {i : Fin 32} {u : UnitId} {cands : List Nat} {syn : BitVec 32} {n : Nat} {c d : Context}
    (hr : s.repair = some ⟨i, u, .searching cands syn n⟩) (hc : s.contexts[i] = some c) (huid : d.uid = c.uid)
    (hgranules : d.granules = c.granules) (v : Verdict) : s.Keeps (s.finishRepair i d v) :=
  ((s.endRepair_keeps (d := { d with state := .draining, posting := true }) (r := some ⟨i, d.uid, .posting v⟩) hr hc huid
    hgranules (fun _ _ _ _ _ => nofun)).trans (State.finalVerdict_keeps _ d.uid v)).trans
    (State.beginPosting_keeps _ (.repair i v) _ _ rfl)

/-- The end of SEARCHING, on the context its record names. -/
theorem State.endSearch_keeps {i : Fin 32} {u : UnitId} {cands : List Nat} {syn : BitVec 32} {n : Nat} {c : Context}
    (hr : s.repair = some ⟨i, u, .searching cands syn n⟩) (hc : s.contexts[i] = some c) :
    s.Keeps (s.endSearch i c cands syn) := by
  unfold State.endSearch
  dsimp only
  split
  · exact s.finishRepair_keeps hr hc (by rfl) (by rfl) _
  · exact s.endRepair_keeps (r := none) hr hc rfl rfl fun _ _ _ _ _ => nofun

/-- An OPEN context is given its verdict. -/
theorem State.unsettle_of_opened (i : Fin 32) (c : Context) (hc : s.contexts[i] = some c) (ho : c.state = .opened) :
    s.unsettle i = ((s.setContext i (some { c with state := .draining, posting := true })).finalVerdict c.uid
      .unsettled).beginPosting (.drain i) (some c.uid) [.trailer, .notice] := by
  unfold State.unsettle
  simp only [hc, ho, if_true]

theorem State.unsettle_keeps (i : Fin 32) : s.Keeps (s.unsettle i) := by
  unfold State.unsettle
  split
  · exact .refl s
  · next c hc =>
    split
    · next ho =>
      have stored : s.Keeps (s.setContext i (some { c with state := .draining, posting := true })) := by
        refine ⟨s.setContext_keepsStores i c _ hc rfl rfl, fun h => ?_⟩
        refine h.setContext_unnamed hc _ (by rw [ho]; nofun) (fun hi => ?_) (fun u cands syn n e => ?_)
          fun d hd => by rw [ho] at hd; cases hd
        · obtain ⟨v, hv⟩ := h.waiting i hi
          have := hv.state_eq hc
          rw [ho] at this
          cases this
        · have := (h.searching i u cands syn n e).state_eq hc
          rw [ho] at this
          cases this
      exact (stored.trans (State.finalVerdict_keeps _ _ _)).trans (State.beginPosting_keeps _ _ _ _ rfl)
    · exact .refl s

end

/-! ### Withdrawing the work of units: overrides (R17) and ABANDON-WINDOW (R32) -/

/-- The contexts a state may keep when the work of the units of which `p` holds is withdrawn. -/
def State.unitsLeft (s : State) (p : UnitId → Bool) (i : Fin 32) : Bool :=
  match s.contexts[i] with
  | some c => !p c.uid
  | none => true

theorem State.unitsLeft_of_held {s : State} {p : UnitId → Bool} {i : Fin 32} {c : Context} (h : s.contexts[i] = some c) :
    s.unitsLeft p i = !p c.uid := by
  unfold State.unitsLeft
  rw [h]

/-- The lanes when the fold of a unit of which `p` holds is stopped. -/
def State.lanesLeft (s : State) (p : UnitId → Bool) : Vector Lane 4 :=
  match s.fold with
  | some r => if p r.pass.uid then
      s.lanes.set r.pass.lane (s.lanes[r.pass.lane].setBuffer r.pass.buffer .free) else s.lanes
  | none => s.lanes

section
variable (s : State) (p : UnitId → Bool)

theorem State.with_fold_self {s : State} {x : Option FoldRecord} (h : s.fold = x) : { s with fold := x } = s := by
  subst h; rfl

/-- What stopping a fold does, part by part. -/
theorem State.stopFold_eq : s.stopFold p = { s with
    fold := s.fold.filter (fun r => !p r.pass.uid)
    lanes := s.lanesLeft p
    testDue := s.testDue || s.fold.any (fun r => p r.pass.uid) } := by
  unfold State.stopFold State.lanesLeft
  cases hf : s.fold with
  | none => exact (State.with_fold_self hf).symm.trans (by simp)
  | some r =>
    cases hp : p r.pass.uid with
    | true => simp [hp, s.endFold_of_some r hf, Option.filter_some]
    | false =>
      refine Eq.trans ?_ ((State.with_fold_self hf).symm.trans ?_) <;> simp [hp, Option.filter_some]

/-- What ending a repair does, part by part. -/
theorem State.stopRepair_eq : s.stopRepair p = { s with
    repairQueue := s.repairQueue.filter (s.unitsLeft p)
    repair := s.repair.filter (fun r => !p r.uid)
    testDue := s.testDue || s.repair.any (fun r => p r.uid && r.phase.posts) } := by
  unfold State.stopRepair
  dsimp only
  cases hr : s.repair with
  | none => simp; rfl
  | some r =>
    cases hp : p r.uid with
    | true => simp [hp, Option.filter_some]; rfl
    | false => simp [hp, Option.filter_some]; rfl

/-- The engines agree when the work of some units is withdrawn and nothing else changes. -/
theorem State.EnginesAgree.withdraw {s t : State} (h : s.EnginesAgree) (p : UnitId → Bool)
    (hfold : t.fold = s.fold.filter (fun r => !p r.pass.uid)) (hrepair : t.repair = s.repair.filter (fun r => !p r.uid))
    (hqueue : t.repairQueue = s.repairQueue.filter (s.unitsLeft p))
    (hposts : t.postings = s.postings.filter (fun x => !x.ownedBy p))
    (hkept : ∀ (i : Fin 32) (c : Context), s.contexts[i] = some c → p c.uid = false → t.contexts[i] = some c)
    (hfrom : ∀ (i : Fin 32) (c : Context), t.contexts[i] = some c → s.contexts[i] = some c) : t.EnginesAgree := by
  have folds : ∀ r, t.fold = some r → s.fold = some r ∧ p r.pass.uid = false := by
    intro r hr
    rw [hfold] at hr
    obtain ⟨hr, hp⟩ := Option.filter_eq_some_iff.mp hr
    exact ⟨hr, by simpa using hp⟩
  have held : ∀ {i : Fin 32} {u : UnitId} {x : ContextState}, p u = false → s.HoldsIn i u x → t.HoldsIn i u x := by
    rintro i u x hu ⟨c, hc, hcu, hcx⟩
    exact ⟨c, hkept i c hc (hcu ▸ hu), hcu, hcx⟩
  have posts : ∀ {poster : Poster} {pass : StagedPass} {u : Option UnitId} {steps : List PostStep},
      ⟨poster, u, steps⟩ ∈ t.postings → u = some pass.uid → p pass.uid = false := by
    intro poster pass u steps hx hu
    rw [hposts, List.mem_filter] at hx
    subst hu
    simpa [Posting.ownedBy] using hx.2
  have sub : ∀ x ∈ t.postings, x ∈ s.postings := fun x hx => List.mem_of_mem_filter (hposts ▸ hx)
  exact {
    updating := fun pass i e => held (folds _ e).2 (h.updating pass i (folds _ e).1)
    keeping := fun pass i o e ho => held (folds _ e).2 (h.keeping pass i o (folds _ e).1 ho)
    settling := fun pass i o c e ho hc => h.settling pass i o c (folds _ e).1 ho (hfrom i c hc)
    foldPosting := fun i o u steps hx => by
      obtain ⟨pass, e, hu⟩ := h.foldPosting i o u steps (sub _ hx)
      refine ⟨pass, ?_, hu⟩
      rw [hfold, e, Option.filter_some, if_pos (by rw [posts hx hu]; rfl)]
    rawPosting := fun pass clean u steps hx => by
      obtain ⟨e, hu⟩ := h.rawPosting pass clean u steps (sub _ hx)
      refine ⟨?_, hu⟩
      rw [hfold, e, Option.filter_some, if_pos (by rw [posts hx hu]; rfl)]
    onePosting := by
      rw [hposts]
      exact (List.filter_sublist.countP_le).trans h.onePosting
    searching := fun i u cands syn n e => by
      rw [hrepair] at e
      obtain ⟨e, hp⟩ := Option.filter_eq_some_iff.mp e
      exact held (by simpa using hp) (h.searching i u cands syn n e)
    waiting := fun i hi => by
      rw [hqueue, List.mem_filter] at hi
      obtain ⟨hi, hleft⟩ := hi
      obtain ⟨u, hu⟩ := h.waiting i hi
      refine ⟨u, held ?_ hu⟩
      obtain ⟨c, hc, hcu, -⟩ := hu
      rw [State.unitsLeft_of_held hc, hcu] at hleft
      simpa using hleft
    once := hqueue ▸ h.once.filter _ }

end

end Sys2Proof.Machine

namespace Sys2Proof.Machine

/-- The unit table when the context of a unit, if it has one, is released. -/
def State.contextsLeft (s : State) (u : UnitId) : Vector (Option Context) 32 :=
  match s.findContext u with
  | some i => s.contexts.set i none
  | none => s.contexts

/-- The unit table with the slots of a list free. -/
def freeSlots (l : List (Fin 32)) (v : Vector (Option Context) 32) : Vector (Option Context) 32 :=
  l.foldl (fun v i => v.set i.val none) v

/-- The free list when the context of a unit, if it has one, is released. -/
def State.freeListAfter (s : State) (u : UnitId) : List Nat :=
  match s.findContext u with
  | some i => s.freeList ++ slotGranules s.contexts[i]
  | none => s.freeList

section
variable (s : State)

theorem State.releaseUnit_eq (u : UnitId) :
    s.releaseUnit u = { s with contexts := s.contextsLeft u, freeList := s.freeListAfter u } := by
  unfold State.releaseUnit State.contextsLeft State.freeListAfter
  cases s.findContext u with
  | none => rfl
  | some i => exact s.release_eq i

/-- The unit of an override is SETTLED, counted and flagged. -/
theorem State.settleOverride_eq (u : UnitId) : ((s.settleUnit u).bump u.window .overrides).setFlag .override = { s with
    windows := s.windows.set u.window { s.windows[u.window] with
      settled := insertAsc u.unit s.windows[u.window].settled
      counters := { s.windows[u.window].counters with overrides := satInc s.windows[u.window].counters.overrides } }
    flags := s.flags ||| 0x040 } := by
  simp [State.settleUnit, State.bump, State.setWindow, State.setFlag, Counters.bump, Flag.mask, Flag.bit]

/-- What the take of an overriding piece does, part by part (R17). -/
theorem State.overrideUnit_eq (u : UnitId) : s.overrideUnit u = { s with
    queue := s.queue.filter (fun e => e.owner != some u)
    runCount := if s.queue.filter (fun e => e.owner != some u) = [] then 0 else s.runCount
    postings := s.postings.filter (fun x => x.owner != some u)
    fold := s.fold.filter (fun r => !(r.pass.uid == u))
    lanes := s.lanesLeft (· == u)
    repairQueue := s.repairQueue.filter (s.unitsLeft (· == u))
    repair := s.repair.filter (fun r => !(r.uid == u))
    contexts := s.contextsLeft u
    freeList := s.freeListAfter u
    windows := s.windows.set u.window { s.windows[u.window] with
      settled := insertAsc u.unit s.windows[u.window].settled
      counters := { s.windows[u.window].counters with overrides := satInc s.windows[u.window].counters.overrides } }
    flags := s.flags ||| 0x040
    testDue := s.testDue || s.queue.any (fun e => e.owner == some u) || s.postings.any (fun x => x.owner == some u)
      || s.fold.any (fun r => r.pass.uid == u) || s.repair.any (fun r => r.uid == u && r.phase.posts) } := by
  unfold State.overrideUnit
  dsimp only
  rw [s.removeEntries_eq, State.endPostings_eq, State.stopFold_eq, State.stopRepair_eq, State.releaseUnit_eq,
    State.settleOverride_eq]
  rfl

theorem State.contextsLeft_of_ne (u : UnitId) (i : Fin 32) (c : Context) (hc : s.contexts[i] = some c) (hu : c.uid ≠ u) :
    (s.contextsLeft u)[i] = some c := by
  unfold State.contextsLeft
  cases hf : s.findContext u with
  | none => exact hc
  | some j =>
    obtain ⟨d, hd, hdu⟩ := s.findContext_some u j hf
    refine (s.setContext_get_of_ne none fun hij => hu ?_).trans hc
    rw [hij, hd] at hc
    cases hc
    exact hdu

theorem State.contextsLeft_from (u : UnitId) (i : Fin 32) (c : Context) (h : (s.contextsLeft u)[i] = some c) :
    s.contexts[i] = some c := by
  unfold State.contextsLeft at h
  split at h
  · change (s.setContext _ none).contexts[i] = some c at h
    rw [State.setContext_get] at h
    split at h
    · cases h
    · exact h
  · exact h

theorem State.releaseUnit_keepsStores (u : UnitId) : s.KeepsStores (s.releaseUnit u) := by
  unfold State.releaseUnit
  split
  · exact s.release_keepsStores _
  · exact .refl s

theorem State.stopFold_keepsStores (p : UnitId → Bool) : s.KeepsStores (s.stopFold p) := by
  rw [s.stopFold_eq]
  exact .of_engines (fun _ => rfl) rfl rfl rfl rfl rfl rfl rfl

theorem State.stopRepair_keepsStores (p : UnitId → Bool) : s.KeepsStores (s.stopRepair p) := by
  rw [s.stopRepair_eq]
  exact .of_engines (fun _ => rfl) rfl rfl rfl rfl rfl rfl rfl

theorem State.endPostings_keeps (p : UnitId → Bool) : s.Keeps (s.endPostings p) :=
  (s.dropPostings_keeps _ List.filter_sublist).trans (State.SameWork.keeps (by constructor <;> rfl) fun _ => rfl)

theorem State.settleUnit_keeps (u : UnitId) : s.Keeps (s.settleUnit u) :=
  (s.setWindow_sameWork _ _).keeps (s.settleUnit_untouched u).sameProfiles

theorem State.overrideUnit_keeps (u : UnitId) : s.Keeps (s.overrideUnit u) := by
  constructor
  · unfold State.overrideUnit
    exact ((((s.removeEntries_keeps _).trans (State.endPostings_keeps _ _)).stores.trans
      ((State.stopFold_keepsStores _ _).trans (State.stopRepair_keepsStores _ _))).trans
      (State.releaseUnit_keepsStores _ u)).trans
      (((State.settleUnit_keeps _ u).trans (State.bump_keeps _ _ _)).trans (State.setFlag_keeps _ _)).stores
  · intro h
    rw [s.overrideUnit_eq]
    refine h.withdraw (· == u) rfl rfl rfl ?_ (fun i c hc hu => s.contextsLeft_of_ne u i c hc (beq_eq_false_iff_ne.mp hu))
      fun i c hc => s.contextsLeft_from u i c hc
    exact List.filter_congr fun x _ => by rw [Posting.ownedBy_unit, bne]

/-- The slots of a list are freed one after the other. -/
theorem State.release_foldl_eq : ∀ (l : List (Fin 32)) (s : State), l.Nodup → l.foldl State.release s = { s with
    contexts := freeSlots l s.contexts
    freeList := s.freeList ++ l.flatMap (fun i => slotGranules s.contexts[i]) }
  | [], s, _ => by simp [freeSlots]
  | i :: l, s, hl => by
    obtain ⟨hi, hl⟩ := List.nodup_cons.mp hl
    have hsame : l.flatMap (fun j => slotGranules (s.release i).contexts[j]) = l.flatMap (fun j => slotGranules s.contexts[j]) :=
      by
      refine List.flatMap_congr fun j hj => ?_
      have hne : j ≠ i := fun e => by subst e; exact hi hj
      rw [State.release_get, if_neg hne]
    rw [List.foldl_cons, State.release_foldl_eq l _ hl, hsame, s.release_eq]
    simp [List.append_assoc, freeSlots]

theorem freeSlots_get (j : Fin 32) : ∀ (l : List (Fin 32)) (v : Vector (Option Context) 32),
    (freeSlots l v)[j] = if j ∈ l then none else v[j]
  | [], v => by simp [freeSlots]
  | i :: l, v => by
    change (freeSlots l (v.set i.val none))[j] = _
    rw [freeSlots_get j l]
    by_cases hl : j ∈ l
    · simp [hl]
    · by_cases hj : j = i
      · simp [hj]
      · have hne : ¬ (i.val = j.val) := fun e => hj (Fin.ext e.symm)
        simp [hl, hj, hne]

theorem State.windowContexts_nodup (w : Fin 8) : (s.windowContexts w).Nodup := (List.nodup_finRange 32).filter _

theorem State.abandonLane_sameWork (w : Fin 8) (k : Fin 4) : s.SameWork (State.abandonLane w s k) := s.setLane_sameWork _ _

theorem State.freePass_sameWork (p : StagedPass) : s.SameWork (s.freePass p) := s.setLane_sameWork _ _

theorem State.abandonStaged_sameWork (w : Fin 8) : s.SameWork (s.abandonStaged w) :=
  (State.SameWork.foldl State.freePass_sameWork _ s).trans (by constructor <;> rfl)

theorem State.abandonStaged_untouched (w : Fin 8) : s.Untouched (s.abandonStaged w) := by
  refine (State.Untouched.foldl State.freePass_untouched (s.foldQueue.filter (fun p => p.uid.window == w)) s).trans ?_
  apply State.Untouched.of_fields <;> rfl

theorem State.abandonLane_untouched (w : Fin 8) (k : Fin 4) : s.Untouched (State.abandonLane w s k) :=
  s.setLane_untouched _ _

theorem State.foldl_release_keepsStores (l : List (Fin 32)) : s.KeepsStores (l.foldl State.release s) := by
  induction l generalizing s with
  | nil => exact .refl s
  | cons i l ih => exact (s.release_keepsStores i).trans (ih _)

/-- The middle part of an abandon: fold, repair, postings and contexts of the window. -/
def State.abandonWork (s : State) (w : Fin 8) : State :=
  let t := ((s.stopFold (fun u => u.window == w)).stopRepair (fun u => u.window == w)).endPostings (fun u => u.window == w)
  (t.windowContexts w).foldl State.release t

theorem State.abandonWork_eq (w : Fin 8) : s.abandonWork w = { s with
    fold := s.fold.filter (fun r => !(r.pass.uid.window == w))
    lanes := s.lanesLeft (fun u => u.window == w)
    repairQueue := s.repairQueue.filter (s.unitsLeft (fun u => u.window == w))
    repair := s.repair.filter (fun r => !(r.uid.window == w))
    postings := s.postings.filter (fun x => !x.ownedBy (fun u => u.window == w))
    contexts := freeSlots (s.windowContexts w) s.contexts
    freeList := s.freeList ++ (s.windowContexts w).flatMap (fun i => slotGranules s.contexts[i])
    testDue := s.testDue || s.fold.any (fun r => r.pass.uid.window == w)
      || s.repair.any (fun r => r.uid.window == w && r.phase.posts)
      || s.postings.any (fun x => x.ownedBy (fun u => u.window == w)) } := by
  unfold State.abandonWork
  rw [State.stopFold_eq, State.stopRepair_eq]
  dsimp only
  rw [State.release_foldl_eq _ _ (State.windowContexts_nodup _ w)]
  rfl

theorem State.abandonWork_keeps (w : Fin 8) : s.Keeps (s.abandonWork w) := by
  constructor
  · exact ((s.stopFold_keepsStores _).trans ((State.stopRepair_keepsStores _ _).trans (State.endPostings_keeps _ _).stores)).trans
      (State.foldl_release_keepsStores _ _)
  · intro h
    rw [s.abandonWork_eq]
    refine h.withdraw (fun u => u.window == w) rfl rfl rfl rfl (fun i c hc hw => ?_) fun i c hc => ?_
    · refine (freeSlots_get i (s.windowContexts w) s.contexts).trans ?_
      rw [if_neg fun hi => ?_, hc]
      obtain ⟨d, hd, hdw⟩ := (s.mem_windowContexts w i).mp hi
      rw [hd] at hc
      cases hc
      exact beq_eq_false_iff_ne.mp hw hdw
    · have hc' := (freeSlots_get i (s.windowContexts w) s.contexts).symm.trans hc
      split at hc'
      · cases hc'
      · exact hc'


end

end Sys2Proof.Machine

namespace Sys2Proof.Machine

section
variable (s : State)

theorem State.discardRecords_keeps (w : Fin 8) : s.Keeps (s.discardRecords w) :=
  State.SameWork.keeps (by constructor <;> rfl) fun _ => rfl

theorem State.setWindow_keeps (w : Fin 8) (x : Window) (h : x.profile = s.profile w) : s.Keeps (s.setWindow w x) :=
  (s.setWindow_sameWork w x).keeps (s.setWindow_untouched w x h).sameProfiles

theorem State.changeWindow_keeps (w : Fin 8) (x : WindowState) : s.Keeps (s.changeWindow w x) :=
  (s.changeWindow_sameWork w x).keeps (s.changeWindow_untouched w x).sameProfiles

theorem State.windowOff_keeps (w : Fin 8) : s.Keeps (s.windowOff w) :=
  (s.windowOff_sameWork w).keeps (s.windowOff_untouched w).sameProfiles

/-- The settle map of a window is cleared. -/
def State.clearMap (s : State) (w : Fin 8) : State := s.setWindow w { s.windows[w] with settled := [] }

/-- ABANDON-WINDOW's parts: lanes, staged passes, the window's work, its entries and records, its settle map, its state. -/
theorem State.abandon_eq (w : Fin 8) : s.abandon w =
    (((((((List.finRange 4).foldl (State.abandonLane w) s).abandonStaged w).abandonWork w).removeEntries
      (fun u => u.window == w)).discardRecords w).clearMap w).windowOff w := by
  unfold State.abandon State.abandonWork State.clearMap
  rfl

theorem State.abandon_keeps (w : Fin 8) : s.Keeps (s.abandon w) := by
  have lanes : s.Keeps (((List.finRange 4).foldl (State.abandonLane w) s).abandonStaged w) :=
    State.SameWork.keeps ((State.SameWork.foldl (fun t k => t.abandonLane_sameWork w k) _ s).trans (State.abandonStaged_sameWork _ w))
      ((State.Untouched.foldl (fun t k => t.abandonLane_untouched w k) _ s).trans (State.abandonStaged_untouched _ w)).sameProfiles
  rw [s.abandon_eq]
  exact ((((lanes.trans (State.abandonWork_keeps _ w)).trans (State.removeEntries_keeps _ (fun u => u.window == w))).trans
    (State.discardRecords_keeps _ w)).trans (State.setWindow_keeps _ w _ (by rfl))).trans (State.windowOff_keeps _ w)

/-! ### At-once steps -/

theorem State.forwardPiece_keeps (a : Active) (b : WaitingBeat) (rest : List WaitingBeat) :
    s.Keeps (s.forwardPiece a b rest) := by
  have joined : ∀ t : Through, s.Keeps (s.joinThrough t) := fun t => (s.joinThrough_sameWork t).keeps fun _ => rfl
  unfold State.forwardPiece
  dsimp only
  split
  · exact (joined _).trans (State.dealt_keeps _ _ _ _)
  · exact ((joined _).trans (State.dealt_keeps _ _ _ _)).trans (State.overrideUnit_keeps _ _)

theorem State.advance_keeps (a : Active) (t : State) (h : s.advance a = some t) : s.Keeps t := by
  unfold State.advance at h
  split at h
  · cases h
  · split at h
    · split at h
      · cases h
      · split at h
        · cases h; exact s.dealt_keeps a 1 0
        · obtain ⟨u, hu, rfl⟩ := Option.map_eq_some_iff.mp h
          exact (s.laneBeat_keeps _ _ _ _ _ u hu).trans (u.dealt_keeps a 1 0)
    · cases h; exact s.forwardPiece_keeps _ _ _
    · cases h; exact s.forwardPiece_keeps _ _ _

theorem State.atOnceTake_keeps (t : State) (h : s.atOnceTake = some t) : s.Keeps t := by
  unfold State.atOnceTake at h
  split at h
  · next hdue => cases h; exact s.repairTake_keeps hdue
  · split at h
    · next hdue => cases h; exact s.foldStart_keeps hdue
    · cases h

theorem State.atOnceDrain_keeps (t : State) (h : s.atOnceDrain = some t) : s.Keeps t := by
  unfold State.atOnceDrain at h
  split at h
  · cases h; exact .foldl State.unsettle_keeps _ s
  · obtain ⟨w, -, rfl⟩ := Option.map_eq_some_iff.mp h
    exact s.endDrain_keeps w

theorem State.atOnceBacklog_keeps (t : State) (h : s.atOnceBacklog = some t) : s.Keeps t := by
  unfold State.atOnceBacklog at h
  split at h
  · cases h; exact s.beginPosting_keeps _ _ _ rfl
  · cases h

/-- One at-once step, of whichever kind. -/
theorem State.atOnce_keeps (t : State) (h : s.atOnce = some t) : s.Keeps t := by
  unfold State.atOnce at h
  simp only [Option.or_eq_some_iff] at h
  obtain hbeats | ⟨-, htake | ⟨-, hdrain | ⟨-, hback | ⟨-, hfeed⟩⟩⟩⟩ := h
  · obtain ⟨a, -, ha⟩ := List.exists_of_findSome?_eq_some hbeats
    exact s.advance_keeps a t ha
  · exact s.atOnceTake_keeps t htake
  · exact s.atOnceDrain_keeps t hdrain
  · exact s.atOnceBacklog_keeps t hback
  · exact s.feed_keeps t hfeed

end

theorem State.drive_keeps : ∀ (n : Nat) (s : State), s.Keeps (State.drive n s)
  | 0, s => .refl s
  | n + 1, s => by
    unfold State.drive
    split
    · exact .refl s
    · next t ht => exact (s.atOnce_keeps t ht).trans (State.drive_keeps n t)

theorem State.settle_keeps (s : State) : s.Keeps s.settle := by
  unfold State.settle
  refine (State.drive_keeps Config.stepFuel s).trans (State.SameWork.keeps ?_ ?_)
  · exact (State.SameWork.trans (by constructor <;> rfl) (State.markStalled_sameWork _)).trans (State.testHolds_sameWork _)
  · exact fun w => ((State.markStalled_untouched _).trans (State.testHolds_untouched _)).profile w

/-! ### Commands -/

/-- What an outcome keeps: every invariant of the state it answers, when it answers one. -/
def State.Answers (s : State) (o : Host.Outcome State Fault Refusal) : Prop := ∀ t, o = .next t → s.Keeps t

theorem State.Answers.next {s t : State} (h : s.Keeps t) : s.Answers (.next t) := fun _ e => by cases e; exact h

theorem State.Answers.fault (s : State) (r : Fault) : s.Answers (.fault r) := fun _ => nofun

theorem State.Answers.refused (s : State) (r : Refusal) : s.Answers (.refused r) := fun _ => nofun

theorem State.Answers.same (s : State) : s.Answers (.next s) := .next (.refl s)

section
variable (s : State)

theorem execRequestTake_keeps (req : Request) : s.Answers (execRequestTake req s) := by
  unfold execRequestTake
  split
  · exact .refused s _
  · split
    · exact .same s
    · next hfree =>
      have hbusy : s.busyInitiator req.initiator = false := by
        cases hb : s.busyInitiator req.initiator with
        | false => rfl
        | true => rw [hb] at hfree; exact absurd (Bool.or_true _) hfree
      split
      · exact .next (s.takeRead_keeps _ _ _ hbusy)
      · exact .next ((s.takeWrite_keeps _ _ _ hbusy).trans (State.settle_keeps _))

/-- The head of the write-back queue is granted. -/
theorem State.grantEntry_keeps (e : Entry) (rest : List Entry) (h : s.queue = e :: rest) : s.Keeps (s.grantEntry e rest) := by
  have granted : s.Keeps { s with queue := rest, runCount := 0, issued := s.issued ++ [e.issue], testDue := true } :=
    .of_queues (fun _ => rfl) (fun hs => hs.mono (by rw [h]; exact Nat.le_succ _) le_rfl (Nat.zero_le _))
      rfl rfl rfl rfl rfl rfl rfl rfl
  refine granted.trans ?_
  unfold State.grantEntry State.countOut
  split
  · split
    · exact (State.modifyContext_keeps _ _ Context.countOut fun _ => ⟨rfl, rfl, rfl⟩).trans (State.releaseIfDone_keeps _ _)
    · exact .refl _
  · exact .refl _

/-- A through-transaction is granted with the run count below its limit, or with nothing waiting. -/
theorem State.afterThrough_keeps (t : Through) (rest : List Through) (h : s.queue = [] ∨ s.runCount ≠ 8) :
    s.Keeps (s.afterThrough t rest) := by
  have granted : s.Keeps (s.grantThrough t rest) := by
    refine .of_queues (fun _ => rfl) (fun hs => ⟨hs.queue, hs.backlog, ?_⟩) rfl rfl rfl rfl rfl rfl rfl rfl
    have hrun := hs.runCount
    unfold State.grantThrough
    dsimp only
    split
    · exact hrun
    · next hne => have := h.resolve_left hne; omega
  unfold State.afterThrough
  split
  · exact granted
  · exact (granted.trans (State.beginPosting_keeps _ _ _ _ rfl)).trans (State.settle_keeps _)

theorem State.arbitrate_keeps : s.Keeps s.arbitrate := by
  unfold State.arbitrate
  split
  · exact .refl s
  · next e q _ hq => exact (s.grantEntry_keeps e q hq).trans (State.settle_keeps _)
  · next t rest _ hq => exact s.afterThrough_keeps t rest (.inl hq)
  · next t rest e q _ hq =>
    split
    · exact (s.grantEntry_keeps e q hq).trans (State.settle_keeps _)
    · next hfirst =>
      refine s.afterThrough_keeps t rest (.inr fun hrun => hfirst ?_)
      rw [State.queueFirst, hrun]
      exact Bool.or_true _

theorem execGrant_keeps : s.Answers (execGrant s) := by
  unfold execGrant
  split
  · exact .same s
  · exact .next s.arbitrate_keeps

theorem State.routeAnswer_keeps (k : Fin 4) (x : Transfer) (code : MemCode) (data : List Quad) :
    s.Keeps (s.routeAnswer k x code data) := by
  unfold State.routeAnswer
  split
  · exact .refl s
  · next a ha =>
    have hk : a.initiator = k := beq_iff_eq.mp (List.find?_some ha :)
    split
    · exact s.respond_keeps _ _
    · exact (s.modifyActive_keeps k (fun _ => a.pieceAnswered code) fun _ _ => hk).trans (State.answerIfDone_keeps _ _)

theorem execThroughResponse_keeps (code : MemCode) (data : List Quad) : s.Answers (execThroughResponse code data s) := by
  unfold execThroughResponse
  split
  · exact .same s
  · next x rest _ =>
    split
    · have taken : s.Keeps { s with issued := rest } := State.SameWork.keeps (by constructor <;> rfl) fun _ => rfl
      exact .next (taken.trans (State.routeAnswer_keeps _ _ _ _ _))
    · exact .same s

theorem execWriteBackAnswer_keeps (code : MemCode) : s.Answers (execWriteBackAnswer code s) := by
  unfold execWriteBackAnswer
  split
  · exact .same s
  · split
    · exact .next (State.SameWork.keeps (by constructor <;> rfl) fun _ => rfl)
    · exact .same s
    · exact .next (State.SameWork.keeps (by constructor <;> rfl) fun _ => rfl)

/-! #### Timers -/

theorem State.idleExpire_keeps (k : Fin 4) : s.Keeps (s.idleExpire k) := by
  unfold State.idleExpire
  split
  · exact ((s.tear_sameWork k).keeps (s.tear_untouched k).sameProfiles).trans (State.settle_keeps _)
  · exact .refl s

theorem State.countStale_keeps (w : Option (Fin 8)) : s.Keeps (s.countStale w) := by
  unfold State.countStale
  split
  · exact s.bump_keeps _ _
  · exact .refl s

theorem State.holdExpire_keeps (k : Fin 4) : s.Keeps (s.holdExpire k) := by
  unfold State.holdExpire
  split
  · split
    · exact ((((s.setHold_sameWork k none).keeps fun _ => rfl).trans
        (State.modifyActive_keeps _ k (fun a => { a with stale := true }) fun _ h => h)).trans
        (State.countStale_keeps _ _)).trans (State.setFlag_keeps _ _)
    · exact .refl s
  · exact .refl s

theorem State.takeDue_keeps : s.Keeps s.takeDue :=
  (State.Keeps.foldl State.idleExpire_keeps _ s).trans (State.Keeps.foldl State.holdExpire_keeps _ _)

theorem State.countDown_keeps : s.Keeps s.countDown :=
  (State.Keeps.foldl (fun t k => State.SameWork.keeps (t := t.tickLane k) (t.setLane_sameWork k _) fun _ => rfl) _ s).trans
    (State.Keeps.foldl (fun t k => State.SameWork.keeps (t := t.tickHold k) (t.setHold_sameWork k _) fun _ => rfl) _ _)

theorem State.run_keeps (r : RunState) : s.Keeps { s with run := r } :=
  State.SameWork.keeps (by constructor <;> rfl) fun _ => rfl

theorem execTimebaseTick_keeps : s.Answers (execTimebaseTick s) := by
  unfold execTimebaseTick
  split
  · exact .same s
  · split
    · exact .next ((s.run_keeps .ready).trans (State.countDown_keeps _))
    · exact .next (s.run_keeps _)
  · exact .next (s.takeDue_keeps.trans (State.countDown_keeps _))

theorem execReady_keeps : s.Answers (execReady s) := by
  unfold execReady
  split
  · split
    · exact .next (s.run_keeps _)
    · exact .same s
  · exact .same s
  · exact .same s

/-! #### Engine steps -/

theorem execFoldStart_keeps : s.Answers (execFoldStart s) := by
  unfold execFoldStart
  split
  · next hdue => exact .next ((s.foldStart_keeps hdue).trans (State.settle_keeps _))
  · exact .same s

theorem execSettleEvaluation_keeps : s.Answers (execSettleEvaluation s) := by
  unfold execSettleEvaluation
  split
  · exact .same s
  · next r hr =>
    split
    · next i hphase =>
      split
      · next c hc =>
        refine .next ((s.evaluate_keeps r.pass i c ?_ hc).trans (State.settle_keeps _))
        rw [hr, ← hphase]
      · exact .fault s _
    · exact .same s
    · exact .same s

theorem State.feedNow_keeps : s.Keeps s.feedNow := by
  unfold State.feedNow
  split
  · next t ht => exact (s.feed_keeps t ht).trans (State.settle_keeps _)
  · exact .refl s

theorem execEntryEntersQueue_keeps : s.Answers (execEntryEntersQueue s) := by
  unfold execEntryEntersQueue
  split
  · exact .same s
  · exact .next s.feedNow_keeps

theorem execNoticeAccepted_keeps : s.Answers (execNoticeAccepted s) := by
  unfold execNoticeAccepted
  split
  · exact .next s.feedNow_keeps
  · exact .same s

theorem execRepairTake_keeps : s.Answers (execRepairTake s) := by
  unfold execRepairTake
  split
  · next hdue => exact .next ((s.repairTake_keeps hdue).trans (State.settle_keeps _))
  · exact .same s

theorem execEndOfSearching_keeps : s.Answers (execEndOfSearching s) := by
  unfold execEndOfSearching
  split
  · exact .same s
  · next r hr =>
    split
    · next cands syn n hphase =>
      split
      · next c hc =>
        have hrec : s.repair = some ⟨r.slot, r.uid, .searching cands syn n⟩ := by rw [hr, ← hphase]
        exact .next ((s.endSearch_keeps hrec hc).trans (State.settle_keeps _))
      · exact .fault s _
    · exact .same s

/-! #### Maintenance commands -/

/-- The frame set aside or put back changes nothing an invariant speaks of. -/
theorem State.frame_keeps (f : Option Frame) (b : Bool) : s.Keeps { s with frame := f, lastRefused := b } :=
  State.SameWork.keeps (by constructor <;> rfl) fun _ => rfl

theorem State.command_keeps (args : Nat) (effect : State → Effect) (h : ∀ t : State, t.Keeps (effect t).state) :
    s.Keeps (s.command args effect) := by
  unfold State.command
  split
  · exact .refl s
  · split
    · exact .refl s
    · exact (State.Keeps.trans (s.frame_keeps none s.lastRefused) (h _)).trans (State.frame_keeps _ _ _)

theorem State.windowCommand_keeps (args : Nat) (window : Byte) (effect : Fin 8 → State → Effect)
    (h : ∀ (w : Fin 8) (t : State), t.Keeps (effect w t).state) : s.Keeps (s.windowCommand args window effect) := by
  refine s.command_keeps args _ fun t => ?_
  split
  · exact h _ t
  · exact .refl t

theorem clampTo_range {lo hi : Nat} (h : lo ≤ hi) (v : Nat) : lo ≤ clampTo lo hi v ∧ clampTo lo hi v ≤ hi := by
  unfold clampTo
  split
  · exact ⟨le_rfl, h⟩
  · split
    · exact ⟨h, le_rfl⟩
    · omega

theorem Profile.legal_iff (p : Profile) : p.legal = true ↔
    p.base.toNat % 4 = 0 ∧ p.sizeCode ≤ 5 ∧ (1 ≤ p.unitCount ∧ p.unitCount ≤ 4096) ∧ (1 ≤ p.minPasses ∧ p.minPasses ≤ 15)
      ∧ (1 ≤ p.passLimit ∧ p.passLimit ≤ 63) ∧ (1 ≤ p.cleanWeight ∧ p.cleanWeight ≤ 4)
      ∧ (1 ≤ p.weakThreshold ∧ p.weakThreshold ≤ 7) ∧ p.candidateLimit ≤ 24 ∧ (1 ≤ p.maxFlips ∧ p.maxFlips ≤ 3)
      ∧ p.holdLimit ≤ 255 ∧ p.idleLimit ≤ 65535 := by
  simp only [Profile.legal, Bool.and_eq_true, beq_iff_eq, decide_eq_true_eq, and_assoc]

/-- WRITE-PROFILE stores legal values only. -/
theorem Profile.writeField_legal (p : Profile) (id : Nat) (v : BitVec 32) (h : p.legal = true) :
    (p.writeField id v).2.legal = true := by
  rw [Profile.legal_iff] at h
  unfold Profile.writeField
  dsimp only
  split
  · split_ifs <;> simp only [Profile.legal_iff] <;> omega
  · split_ifs <;> simp only [Profile.legal_iff] <;> omega
  · have := clampTo_range (lo := 1) (hi := 4096) (by omega) v.toNat; simp only [Profile.legal_iff]; omega
  · split_ifs <;> simp only [Profile.legal_iff] <;> omega
  · simp only [Profile.legal_iff]; omega
  · split_ifs <;> simp only [Profile.legal_iff] <;> omega
  · have := clampTo_range (lo := 1) (hi := 15) (by omega) v.toNat; simp only [Profile.legal_iff]; omega
  · have := clampTo_range (lo := 1) (hi := 63) (by omega) v.toNat; simp only [Profile.legal_iff]; omega
  · have := clampTo_range (lo := 1) (hi := 4) (by omega) v.toNat; simp only [Profile.legal_iff]; omega
  · have := clampTo_range (lo := 1) (hi := 7) (by omega) v.toNat; simp only [Profile.legal_iff]; omega
  · have := clampTo_range (lo := 0) (hi := 24) (by omega) v.toNat; simp only [Profile.legal_iff]; omega
  · have := clampTo_range (lo := 1) (hi := 3) (by omega) v.toNat; simp only [Profile.legal_iff]; omega
  · have := clampTo_range (lo := 0) (hi := 255) (by omega) v.toNat; simp only [Profile.legal_iff]; omega
  · have := clampTo_range (lo := 0) (hi := 65535) (by omega) v.toNat; simp only [Profile.legal_iff]; omega
  · exact (p.legal_iff).mpr h

theorem execWriteProfile_keeps (window field : Byte) (value : BitVec 32) :
    s.Answers (execWriteProfile window field value s) := by
  refine .next (s.windowCommand_keeps 6 window _ fun w t => ?_)
  unfold State.writeProfile
  split
  · refine (t.setWindow_sameWork w _).keeps_of_legal fun h v => ?_
    rw [State.profile, State.setWindow_get]
    split
    · exact Profile.writeField_legal _ _ _ (h w)
    · exact h v
  · exact .refl t

theorem execReadProfile_keeps (window field : Byte) : s.Answers (execReadProfile window field s) := by
  refine .next (s.windowCommand_keeps 2 window _ fun w t => ?_)
  unfold State.readProfile
  split <;> exact .refl t

theorem execOpenWindow_keeps (window : Byte) : s.Answers (execOpenWindow window s) := by
  refine .next (s.windowCommand_keeps 1 window _ fun w t => ?_)
  unfold State.openWindow
  split
  · exact .refl t
  · split
    · exact .refl t
    · exact (((t.setWindow_keeps w _ (by rfl)).trans (State.discardRecords_keeps _ w)).trans
        (State.changeWindow_keeps _ w .active)).trans (State.settle_keeps _)

theorem execCloseWindow_keeps (window : Byte) : s.Answers (execCloseWindow window s) := by
  refine .next (s.windowCommand_keeps 1 window _ fun w t => ?_)
  unfold State.closeWindow
  split
  · exact .refl t
  · exact .refl t
  · exact (t.changeWindow_keeps w .closing).trans (State.settle_keeps _)

theorem execAbandonWindow_keeps (window : Byte) : s.Answers (execAbandonWindow window s) := by
  refine .next (s.windowCommand_keeps 1 window (fun w t => ⟨(t.abandon w).settle, .ok, []⟩) fun w t => ?_)
  dsimp only
  exact (t.abandon_keeps w).trans (State.settle_keeps _)

theorem execClearCounters_keeps (window : Byte) : s.Answers (execClearCounters window s) :=
  .next (s.windowCommand_keeps 1 window _ fun w t => t.setWindow_keeps w _ rfl)

theorem execQueryUnit_keeps (window : Byte) (unit : BitVec 16) : s.Answers (execQueryUnit window unit s) := by
  refine .next (s.windowCommand_keeps 3 window _ fun w t => ?_)
  unfold State.queryUnit
  split <;> exact .refl t

theorem execReopenUnit_keeps (window : Byte) (unit : BitVec 16) : s.Answers (execReopenUnit window unit s) := by
  refine .next (s.windowCommand_keeps 3 window _ fun w t => ?_)
  unfold State.reopenUnit
  split
  · exact .refl t
  · split
    · exact .refl t
    · exact t.setWindow_keeps w _ rfl

/-- A change of the ring writer that leaves its backlog. -/
theorem State.ring_keeps (r : Ring) (h : r.backlog = s.ring.backlog) : s.Keeps { s with ring := r } :=
  State.SameWork.keeps ⟨rfl, h, rfl, rfl, rfl, rfl, rfl, rfl, rfl, rfl, rfl⟩ fun _ => rfl

theorem execSetRing_keeps (ringBegin ringEnd : Addr) : s.Answers (execSetRing ringBegin ringEnd s) := by
  refine .next (s.command_keeps 8 _ fun t => ?_)
  unfold State.setRing
  split
  · exact .refl t
  · split
    · exact .refl t
    · exact t.ring_keeps _ rfl

theorem execRingEnable_keeps : s.Answers (execRingEnable s) := by
  refine .next (s.command_keeps 0 _ fun t => ?_)
  unfold State.enableRing
  split
  · exact .refl t
  · split
    · exact .refl t
    · exact t.ring_keeps _ rfl

theorem execRingDisable_keeps : s.Answers (execRingDisable s) := by
  refine .next (s.command_keeps 0 _ fun t => ?_)
  unfold State.disableRing
  split
  · have emptied : t.Keeps { t with ring := { t.ring with enabled := false, backlog := [] } } :=
      .of_queues (fun _ => rfl) (fun h => h.mono le_rfl (Nat.zero_le _) le_rfl) rfl rfl rfl rfl rfl rfl rfl rfl
    exact (emptied.trans (State.dropPostings_keeps _ (t.postings.filter Posting.notBacklog) List.filter_sublist)).trans
      (State.settle_keeps _)
  · exact .refl t

theorem execRingConsumed_keeps (pointer : Addr) : s.Answers (execRingConsumed pointer s) := by
  refine .next (s.command_keeps 4 _ fun t => ?_)
  unfold State.consumeRing
  dsimp only
  split
  · exact .refl t
  · have moved : t.Keeps { t with ring := { t.ring with consumed := (t.ring.consume pointer).2 } } := t.ring_keeps _ rfl
    exact moved.trans (State.settle_keeps _)

theorem execCoreReset_keeps : s.Answers (execCoreReset s) := by
  unfold execCoreReset
  split
  · exact .same s
  · split
    · exact .same s
    · exact .next (s.frame_keeps _ _)

theorem execBadcmd_keeps (code : Byte) : s.Answers (execBadcmd code s) := by
  unfold execBadcmd
  split
  · exact .next (s.command_keeps 0 _ fun t => .refl t)
  · exact .refused s _

/-- A command that changes, in the part, only what no invariant speaks of. -/
theorem State.plainCommand_keeps (args : Nat) (effect : State → Effect) (h : ∀ t : State, t.SameWork (effect t).state)
    (hp : ∀ t : State, t.SameProfiles (effect t).state) : s.Answers (.next (s.command args effect)) :=
  .next (s.command_keeps args effect fun t => (h t).keeps (hp t))

/-! #### Pins -/

/-- Windows, contexts, granules, queues and engines at their reset values. -/
theorem State.Keeps.of_reset {t : State} (hw : t.windows = Vector.replicate 8 Window.reset) (hq : t.queue = [])
    (hb : t.ring.backlog = []) (hn : t.runCount = 0) (hc : t.contexts = Vector.replicate 32 none)
    (hf : t.freeList = List.range Config.granules) (hfold : t.fold = none) (hr : t.repair = none) (hrq : t.repairQueue = [])
    (hp : t.postings = []) (hv : t.votes = s.votes) (ha : s.OneRequestEach → t.OneRequestEach) : s.Keeps t := by
  have free : ∀ i : Fin 32, t.contexts[i] = none := fun i => by rw [hc]; exact Vector.getElem_replicate _
  refine ⟨⟨fun _ w => ?_, fun _ => ⟨?_, ?_, ?_⟩, fun _ => ?_, fun _ i j c d e => ?_, ha, fun h => h.congr hv⟩, fun _ => ?_⟩
  · rw [State.profile, hw, Fin.getElem_fin, Vector.getElem_replicate]
    decide
  · rw [hq]; exact Nat.zero_le _
  · rw [hb]; exact Nat.zero_le _
  · rw [hn]; exact Nat.zero_le _
  · unfold State.GranulesAccounted State.heldGranules
    rw [hc, hf]
    exact .of_eq (by decide +kernel)
  · rw [free i] at e
    cases e
  · exact {
      updating := fun pass i e => by rw [hfold] at e; cases e
      keeping := fun pass i o e => by rw [hfold] at e; cases e
      settling := fun pass i o c e => by rw [hfold] at e; cases e
      foldPosting := fun i o u steps hx => by rw [hp] at hx; cases hx
      rawPosting := fun pass clean u steps hx => by rw [hp] at hx; cases hx
      onePosting := by rw [hp]; exact Nat.zero_le _
      searching := fun i u cands syn n e => by rw [hr] at e; cases e
      waiting := fun i hi => by rw [hrq] at hi; cases hi
      once := by rw [hrq]; exact List.nodup_nil }

theorem execPinResetAssert_keeps : s.Answers (execPinResetAssert s) := by
  unfold execPinResetAssert
  refine .next ?_
  exact .of_reset s rfl rfl rfl rfl rfl (by simp only [State.resetBlocks]) rfl rfl rfl rfl rfl fun _ => List.nodup_nil

theorem State.coreReset_keeps : s.Keeps s.coreReset := by
  unfold State.coreReset
  refine State.Keeps.trans ?_ (State.settle_keeps _)
  refine .of_reset s rfl rfl rfl rfl rfl (by simp only [State.resetBlocks]) rfl rfl rfl rfl rfl fun h => ?_
  unfold State.OneRequestEach
  rw [List.map_map]
  exact h

theorem execFrameEnd_keeps : s.Answers (execFrameEnd s) := by
  have ended : s.Keeps { s with mselLow := false, frame := none } := State.SameWork.keeps (by constructor <;> rfl) fun _ => rfl
  unfold execFrameEnd
  dsimp only
  split
  · split
    · exact .next (ended.trans (State.coreReset_keeps _))
    · exact .next ended
  · exact .same s

theorem execFrameOpen_keeps : s.Answers (execFrameOpen s) := by
  unfold execFrameOpen
  split
  · exact .same s
  · split <;> exact .next (State.SameWork.keeps (by constructor <;> rfl) fun _ => rfl)

theorem execPinResetDeassert_keeps (refdiv : BitVec 2) : s.Answers (execPinResetDeassert refdiv s) := by
  unfold execPinResetDeassert
  split
  · exact .next (State.SameWork.keeps (by constructor <;> rfl) fun _ => rfl)
  · exact .same s

end

/-- Every command keeps every invariant. -/
theorem exec_keeps (c : Instr) (s : State) : s.Answers (exec c s) := by
  cases c with
  | requestTake req => exact execRequestTake_keeps s req
  | grant => exact execGrant_keeps s
  | throughResponse code data => exact execThroughResponse_keeps s code data
  | writeBackAnswer code => exact execWriteBackAnswer_keeps s code
  | idleExpiry lane => exact .next (s.idleExpire_keeps lane)
  | holdExpiry initiator => exact .next (s.holdExpire_keeps initiator)
  | foldStart => exact execFoldStart_keeps s
  | settleEvaluation => exact execSettleEvaluation_keeps s
  | entryEntersQueue => exact execEntryEntersQueue_keeps s
  | noticeAccepted => exact execNoticeAccepted_keeps s
  | repairTake => exact execRepairTake_keeps s
  | endOfSearching => exact execEndOfSearching_keeps s
  | readStatus => exact s.plainCommand_keeps 0 _ (fun _ => by constructor <;> rfl) fun _ _ => rfl
  | readFlags => exact s.plainCommand_keeps 0 _ (fun t => .refl t) fun _ _ => rfl
  | clearFlags mask => exact s.plainCommand_keeps 2 _ (fun _ => by constructor <;> rfl) fun _ _ => rfl
  | setEnables value => exact s.plainCommand_keeps 2 _ (fun _ => by constructor <;> rfl) fun _ _ => rfl
  | writeProfile window field value => exact execWriteProfile_keeps s window field value
  | readProfile window field => exact execReadProfile_keeps s window field
  | openWindow window => exact execOpenWindow_keeps s window
  | closeWindow window => exact execCloseWindow_keeps s window
  | abandonWindow window => exact execAbandonWindow_keeps s window
  | readCounters window => exact .next (s.windowCommand_keeps 1 window _ fun w t => .refl t)
  | clearCounters window => exact execClearCounters_keeps s window
  | queryUnit window unit => exact execQueryUnit_keeps s window unit
  | reopenUnit window unit => exact execReopenUnit_keeps s window unit
  | setRing ringBegin ringEnd => exact execSetRing_keeps s ringBegin ringEnd
  | ringEnable => exact execRingEnable_keeps s
  | ringDisable => exact execRingDisable_keeps s
  | ringConsumed pointer => exact execRingConsumed_keeps s pointer
  | readRing => exact s.plainCommand_keeps 0 _ (fun t => .refl t) fun _ _ => rfl
  | readFault => exact s.plainCommand_keeps 0 _ (fun t => .refl t) fun _ _ => rfl
  | clearFault => exact s.plainCommand_keeps 0 _ (fun _ => by constructor <;> rfl) fun _ _ => rfl
  | coreReset => exact execCoreReset_keeps s
  | badcmd code => exact execBadcmd_keeps s code
  | frameEnd => exact execFrameEnd_keeps s
  | pinResetAssert => exact execPinResetAssert_keeps s
  | pinResetDeassert refdiv => exact execPinResetDeassert_keeps s refdiv
  | ready => exact execReady_keeps s
  | frameOpen => exact execFrameOpen_keeps s
  | timebaseTick => exact execTimebaseTick_keeps s

theorem State.clock_keeps (s : State) (e : MclkEdge) : s.Keeps (s.clock e).1 := by
  unfold State.clock
  split
  · exact .refl s
  · split <;> exact s.frame_keeps _ _

/-- Every step keeps every invariant. -/
theorem step_keeps (s t : State) (h : step s = .next t) : s.Keeps t := by
  unfold step at h
  split at h
  · unfold State.goOn at h
    split at h
    · cases h; exact s.searchOn_keeps
    · next e rest _ =>
      have popped : s.Keeps { s with mclk := rest } := State.SameWork.keeps (by constructor <;> rfl) fun _ => rfl
      have taken : s.Keeps ({ s with mclk := rest }.clock e).1 := popped.trans (State.clock_keeps _ e)
      split at h
      · exact taken.trans (exec_keeps _ _ t h)
      · cases h; exact taken
  · next c rest _ =>
    have taken : s.Keeps { s with pending := rest } := State.SameWork.keeps (by constructor <;> rfl) fun _ => rfl
    exact taken.trans (exec_keeps _ _ t h)

/-! ### The invariants -/

/-- Settles O56. -/
theorem profilesStayLegal : Obligations.ProfilesStayLegal :=
  fun s t hs h => (step_keeps s t h).stores.profiles hs

/-- Settles O57. -/
theorem queuesStayBounded : Obligations.QueuesStayBounded :=
  fun s t hs h => (step_keeps s t h).stores.queues hs

/-- The engines' records name held slots when the engines agree with the unit table. -/
theorem State.EnginesAgree.recordsHeld {s : State} (h : s.EnginesAgree) : s.RecordsHeld where
  fold pass i e := by
    obtain ⟨c, hc, -⟩ := h.updating pass i e
    rw [hc]
    rfl
  repair i u cands syn n e := by
    obtain ⟨c, hc, -⟩ := h.searching i u cands syn n e
    rw [hc]
    rfl

/-- Settles O58. -/
theorem granulesStayAccounted : Obligations.GranulesStayAccounted :=
  ⟨fun s t hs h => (step_keeps s t h).stores.granules hs, fun s t hs h => (step_keeps s t h).stores.units hs,
    fun s t hs h => (step_keeps s t h).stores.requests hs, fun s t hs h => (step_keeps s t h).engines hs,
    fun _ h => h.recordsHeld⟩

/-- Settles O59. -/
theorem votesStayCanonical : Obligations.VotesStayCanonical :=
  fun s t hs h => (step_keeps s t h).stores.votes hs

end Sys2Proof.Machine

/-! The machine as a whole: the invariants right after reset, what a step runs, what waits behind a command, which commands
complete, and the edges of RESET_N with the ticks to readiness (R20, R179, R180). -/

namespace Sys2Proof.Machine

/-! ### After reset -/

theorem reset_free (i : Fin 32) : State.reset.contexts[i] = none := Vector.getElem_replicate _

/-- Right after reset nothing waits and nothing is under way. -/
theorem reset_calm : State.reset.Calm where
  waiting := nofun
  postings := rfl
  closing w := by rw [Fin.getElem_fin, State.reset, Vector.getElem_replicate]; nofun
  backlog := rfl
  repairQueue := rfl
  holds k := Vector.getElem_replicate _
  testDue := rfl

theorem reset_enginesAgree : State.reset.EnginesAgree where
  updating _ _ := nofun
  keeping _ _ _ := nofun
  settling _ _ _ _ := nofun
  foldPosting _ _ _ _ := nofun
  rawPosting _ _ _ _ := nofun
  onePosting := Nat.zero_le _
  searching _ _ _ _ _ := nofun
  waiting _ := nofun
  once := List.nodup_nil

/-- Settles O60: the reset state is calm and every list in it but the free list is empty. -/
theorem invariantsHoldAtReset : Obligations.InvariantsHoldAtReset := by
  refine ⟨fun w => ?_, ⟨Nat.zero_le _, Nat.zero_le _, Nat.zero_le _⟩, ?_, fun i j c d e => ?_, List.nodup_nil,
    ⟨⟨List.Pairwise.nil, nofun⟩, nofun⟩, reset_enginesAgree, reset_enginesAgree.recordsHeld, reset_calm.still rfl⟩
  · rw [State.profile, Fin.getElem_fin, State.reset, Vector.getElem_replicate]
    decide
  · exact .of_eq (by decide +kernel)
  · rw [reset_free i] at e
    cases e

/-! ### One step -/

/-- A step on an empty queue of commands with no edge of MCLK waiting carries the search on. -/
theorem step_of_idle (s : State) (hp : s.pending = []) (hm : s.mclk = []) : step s = .next s.searchOn := by
  unfold step State.goOn
  rw [hp, hm]

theorem State.searchOn_of_none (s : State) (h : ∀ r, s.repair = some r → r.phase.posts = true) : s.searchOn = s := by
  unfold State.searchOn
  cases hr : s.repair with
  | none => rfl
  | some r =>
    cases hphase : r.phase with
    | searching cands syn n =>
      have := h r hr
      rw [hphase] at this
      cases this
    | posting v => simp only [hphase]

theorem State.searchOn_of_searching (s : State) {i : Fin 32} {u : UnitId} {cands : List Nat} {syn : BitVec 32} {n : Nat}
    (h : s.repair = some ⟨i, u, .searching cands syn n⟩) :
    s.searchOn = if n < searchLength (s.profile u.window) cands syn then
      { s with repair := some ⟨i, u, .searching cands syn (n + 1)⟩ } else s := by
  unfold State.searchOn
  simp only [h]

/-- Settles O1. -/
theorem stepRunsTheFrontCommand : Obligations.StepRunsTheFrontCommand := by
  refine ⟨step_cons, fun s hp hm hr => ?_, fun s i u cands syn n hp hm hr => ⟨fun hlt => ?_, fun hle => ?_⟩⟩
  · rw [step_of_idle s hp hm, s.searchOn_of_none hr]
  · rw [step_of_idle s hp hm, s.searchOn_of_searching hr, if_pos hlt]
  · rw [step_of_idle s hp hm, s.searchOn_of_searching hr, if_neg (Nat.not_lt.mpr hle)]

/-! ### What waits behind a command -/

/-- The queue of commands and the edges of MCLK that wait are as they were. -/
structure State.SameWaiting (s t : State) : Prop where
  pending : t.pending = s.pending
  mclk : t.mclk = s.mclk

theorem State.SameWaiting.refl (s : State) : s.SameWaiting s := ⟨rfl, rfl⟩

theorem State.SameWaiting.trans {s t u : State} (h : s.SameWaiting t) (g : t.SameWaiting u) : s.SameWaiting u :=
  ⟨g.pending.trans h.pending, g.mclk.trans h.mclk⟩

theorem State.SameWaiting.foldl {α : Type} {f : State → α → State} (h : ∀ (s : State) (a : α), s.SameWaiting (f s a)) :
    ∀ (l : List α) (s : State), s.SameWaiting (l.foldl f s)
  | [], s => .refl s
  | a :: l, s => (h s a).trans (State.SameWaiting.foldl h l _)

theorem State.Untouched.sameWaiting {s t : State} (h : s.Untouched t) : s.SameWaiting t := ⟨h.pending, h.mclk⟩

/-- What waits stands through what an event brings about at once. -/
theorem State.SameWaiting.settle {s t : State} (h : s.SameWaiting t) : s.SameWaiting t.settle :=
  h.trans t.settle_untouched.sameWaiting

/-- The next state that an outcome answers leaves what waits. -/
def State.LeavesWaiting (s : State) (o : Host.Outcome State Fault Refusal) : Prop := ∀ t, o = .next t → s.SameWaiting t

theorem State.LeavesWaiting.next {s t : State} (h : s.SameWaiting t) : s.LeavesWaiting (.next t) :=
  fun _ e => by cases e; exact h

theorem State.LeavesWaiting.same (s : State) : s.LeavesWaiting (.next s) := .next (.refl s)

theorem State.LeavesWaiting.ite {s : State} {a b : Host.Outcome State Fault Refusal} (c : Prop) [Decidable c]
    (ha : s.LeavesWaiting a) (hb : s.LeavesWaiting b) : s.LeavesWaiting (if c then a else b) := by
  split
  · exact ha
  · exact hb

section
variable (s : State)

theorem State.command_sameWaiting (args : Nat) (effect : State → Effect) (h : ∀ t : State, t.SameWaiting (effect t).state) :
    s.SameWaiting (s.command args effect) := by
  unfold State.command
  split
  · exact .refl s
  · split
    · exact .refl s
    · exact ⟨(h { s with frame := none }).pending, (h { s with frame := none }).mclk⟩

theorem State.windowCommand_sameWaiting (args : Nat) (window : Byte) (effect : Fin 8 → State → Effect)
    (h : ∀ (w : Fin 8) (t : State), t.SameWaiting (effect w t).state) : s.SameWaiting (s.windowCommand args window effect) := by
  refine s.command_sameWaiting args _ fun t => ?_
  split
  · exact h _ t
  · exact .refl t

theorem State.countOut_untouched (e : Entry) : s.Untouched (s.countOut e) := by
  unfold State.countOut
  split
  · split
    · exact (s.modifyContext_untouched _ _).trans (State.releaseIfDone_untouched _ _)
    · exact .refl s
  · exact .refl s

theorem State.arbitrate_sameWaiting : s.SameWaiting s.arbitrate := by
  have entry : ∀ e q, s.SameWaiting (s.grantEntry e q).settle := fun e q => by
    refine State.SameWaiting.settle (State.SameWaiting.trans ?_ (State.countOut_untouched _ e).sameWaiting)
    exact ⟨rfl, rfl⟩
  have through : ∀ t rest, s.SameWaiting (s.afterThrough t rest) := fun t rest => by
    unfold State.afterThrough
    split
    · exact ⟨rfl, rfl⟩
    · exact State.SameWaiting.settle ⟨rfl, rfl⟩
  unfold State.arbitrate
  split
  · exact .refl s
  · exact entry _ _
  · exact through _ _
  · split
    · exact entry _ _
    · exact through _ _

theorem State.routeAnswer_untouched (k : Fin 4) (x : Transfer) (code : MemCode) (data : List Quad) :
    s.Untouched (s.routeAnswer k x code data) := by
  unfold State.routeAnswer
  split
  · exact .refl s
  · split
    · exact s.respond_untouched _ _
    · exact (s.modifyActive_untouched _ _).trans (State.answerIfDone_untouched _ _)

theorem State.idleExpire_untouched (k : Fin 4) : s.Untouched (s.idleExpire k) := by
  unfold State.idleExpire
  split
  · exact (s.tear_untouched k).trans (State.settle_untouched _)
  · exact .refl s

theorem State.holdExpire_untouched (k : Fin 4) : s.Untouched (s.holdExpire k) := by
  have counted : ∀ (t : State) (w : Option (Fin 8)), t.Untouched (t.countStale w) := fun t w => by
    unfold State.countStale
    split
    · exact t.bump_untouched _ _
    · exact .refl t
  unfold State.holdExpire
  split
  · split
    · exact (((s.setHold_untouched k none).trans (State.modifyActive_untouched _ k _)).trans (counted _ _)).trans
        (State.setFlag_untouched _ _)
    · exact .refl s
  · exact .refl s

theorem State.countDown_untouched : s.Untouched s.countDown :=
  (State.Untouched.foldl (fun t k => t.setLane_untouched k _) (List.finRange 4) s).trans
    (State.Untouched.foldl (fun t k => t.setHold_untouched k _) (List.finRange 4) _)

theorem State.takeDue_untouched : s.Untouched s.takeDue :=
  (State.Untouched.foldl State.idleExpire_untouched _ s).trans (State.Untouched.foldl State.holdExpire_untouched _ _)

theorem State.feedNow_sameWaiting : s.SameWaiting s.feedNow := by
  unfold State.feedNow
  split
  · next t ht => exact (s.feed_leaves t ht).sameWaiting.settle
  · exact .refl s

theorem State.abandon_untouched (w : Fin 8) : s.Untouched (s.abandon w) := by
  have work : ∀ t : State, t.Untouched (t.abandonWork w) := fun t => by
    rw [t.abandonWork_eq]
    apply State.Untouched.of_fields <;> rfl
  rw [s.abandon_eq]
  exact ((((((State.Untouched.foldl (fun t k => t.abandonLane_untouched w k) _ s).trans (State.abandonStaged_untouched _ w)).trans
    (work _)).trans (State.removeEntries_untouched _ _)).trans (State.discardRecords_untouched _ w)).trans
    (State.setWindow_untouched _ w _ (by rfl))).trans (State.windowOff_untouched _ w)

/-- No command touches the queue of commands behind it or the edges that wait: what it brings about at once does not, and each
command itself stores other fields. -/
theorem exec_leavesWaiting (c : Instr) : s.LeavesWaiting (exec c s) := by
  cases c with
  | requestTake req =>
    change s.LeavesWaiting (execRequestTake req s)
    unfold execRequestTake
    refine .ite _ (fun _ => nofun) (.ite _ (.same s) ?_)
    split
    · exact .next ⟨rfl, rfl⟩
    · exact .next (State.SameWaiting.settle ⟨rfl, rfl⟩)
  | grant => exact .ite _ (.same s) (.next s.arbitrate_sameWaiting)
  | throughResponse code data =>
    change s.LeavesWaiting (execThroughResponse code data s)
    unfold execThroughResponse
    split
    · exact .same s
    · split
      · exact .next ⟨(State.routeAnswer_untouched _ _ _ _ _).pending, (State.routeAnswer_untouched _ _ _ _ _).mclk⟩
      · exact .same s
  | writeBackAnswer code =>
    change s.LeavesWaiting (execWriteBackAnswer code s)
    unfold execWriteBackAnswer
    split
    · exact .same s
    · split
      · exact .next ⟨rfl, rfl⟩
      · exact .same s
      · exact .next ⟨rfl, rfl⟩
  | idleExpiry lane => exact .next (s.idleExpire_untouched lane).sameWaiting
  | holdExpiry initiator => exact .next (s.holdExpire_untouched initiator).sameWaiting
  | foldStart => exact .ite _ (.next s.foldStart_untouched.sameWaiting.settle) (.same s)
  | settleEvaluation =>
    change s.LeavesWaiting (execSettleEvaluation s)
    unfold execSettleEvaluation
    split
    · exact .same s
    · split
      · split
        · exact .next (s.evaluate_untouched _ _ _).sameWaiting.settle
        · exact fun _ => nofun
      · exact .same s
      · exact .same s
  | entryEntersQueue => exact .ite _ (.same s) (.next s.feedNow_sameWaiting)
  | noticeAccepted => exact .ite _ (.next s.feedNow_sameWaiting) (.same s)
  | repairTake => exact .ite _ (.next s.repairTake_untouched.sameWaiting.settle) (.same s)
  | endOfSearching =>
    change s.LeavesWaiting (execEndOfSearching s)
    unfold execEndOfSearching
    split
    · exact .same s
    · split
      · split
        · exact .next (s.endSearch_untouched _ _ _ _).sameWaiting.settle
        · exact fun _ => nofun
      · exact .same s
  | readStatus => exact .next (s.command_sameWaiting 0 _ fun _ => ⟨rfl, rfl⟩)
  | readFlags => exact .next (s.command_sameWaiting 0 _ fun _ => ⟨rfl, rfl⟩)
  | clearFlags mask => exact .next (s.command_sameWaiting 2 _ fun _ => ⟨rfl, rfl⟩)
  | setEnables value => exact .next (s.command_sameWaiting 2 _ fun _ => ⟨rfl, rfl⟩)
  | writeProfile window field value =>
    refine .next (s.windowCommand_sameWaiting 6 window _ fun w t => ?_)
    unfold State.writeProfile
    split <;> exact ⟨rfl, rfl⟩
  | readProfile window field =>
    refine .next (s.windowCommand_sameWaiting 2 window _ fun w t => ?_)
    unfold State.readProfile
    split <;> exact ⟨rfl, rfl⟩
  | openWindow window =>
    refine .next (s.windowCommand_sameWaiting 1 window _ fun w t => ?_)
    unfold State.openWindow
    split
    · exact .refl t
    · split
      · exact .refl t
      · exact State.SameWaiting.settle ⟨rfl, rfl⟩
  | closeWindow window =>
    refine .next (s.windowCommand_sameWaiting 1 window _ fun w t => ?_)
    unfold State.closeWindow
    split
    · exact .refl t
    · exact .refl t
    · exact State.SameWaiting.settle ⟨rfl, rfl⟩
  | abandonWindow window =>
    refine .next (s.windowCommand_sameWaiting 1 window _ fun w t => ?_)
    dsimp only
    exact (t.abandon_untouched w).sameWaiting.settle
  | readCounters window => exact .next (s.windowCommand_sameWaiting 1 window _ fun _ _ => ⟨rfl, rfl⟩)
  | clearCounters window => exact .next (s.windowCommand_sameWaiting 1 window _ fun _ _ => ⟨rfl, rfl⟩)
  | queryUnit window unit =>
    refine .next (s.windowCommand_sameWaiting 3 window _ fun w t => ?_)
    unfold State.queryUnit
    split <;> exact .refl t
  | reopenUnit window unit =>
    refine .next (s.windowCommand_sameWaiting 3 window _ fun w t => ?_)
    unfold State.reopenUnit
    split
    · exact .refl t
    · split
      · exact .refl t
      · exact ⟨rfl, rfl⟩
  | setRing ringBegin ringEnd =>
    refine .next (s.command_sameWaiting 8 _ fun t => ?_)
    unfold State.setRing
    split
    · exact .refl t
    · split
      · exact .refl t
      · exact ⟨rfl, rfl⟩
  | ringEnable =>
    refine .next (s.command_sameWaiting 0 _ fun t => ?_)
    unfold State.enableRing
    split
    · exact .refl t
    · split
      · exact .refl t
      · exact ⟨rfl, rfl⟩
  | ringDisable =>
    refine .next (s.command_sameWaiting 0 _ fun t => ?_)
    unfold State.disableRing
    split
    · exact State.SameWaiting.settle ⟨rfl, rfl⟩
    · exact .refl t
  | ringConsumed pointer =>
    refine .next (s.command_sameWaiting 4 _ fun t => ?_)
    unfold State.consumeRing
    dsimp only
    split
    · exact .refl t
    · exact State.SameWaiting.settle ⟨rfl, rfl⟩
  | readRing => exact .next (s.command_sameWaiting 0 _ fun _ => ⟨rfl, rfl⟩)
  | readFault => exact .next (s.command_sameWaiting 0 _ fun _ => ⟨rfl, rfl⟩)
  | clearFault => exact .next (s.command_sameWaiting 0 _ fun _ => ⟨rfl, rfl⟩)
  | coreReset =>
    change s.LeavesWaiting (execCoreReset s)
    unfold execCoreReset
    split
    · exact .same s
    · split
      · exact .same s
      · exact .next ⟨rfl, rfl⟩
  | badcmd code => exact .ite _ (.next (s.command_sameWaiting 0 _ fun _ => ⟨rfl, rfl⟩)) (fun _ => nofun)
  | frameEnd => exact .ite _ (.ite _ (.next (State.SameWaiting.settle ⟨rfl, rfl⟩)) (.next ⟨rfl, rfl⟩)) (.same s)
  | pinResetAssert => exact .next ⟨rfl, rfl⟩
  | pinResetDeassert refdiv => exact .ite _ (.next ⟨rfl, rfl⟩) (.same s)
  | ready =>
    change s.LeavesWaiting (execReady s)
    unfold execReady
    split
    · exact .ite _ (.next ⟨rfl, rfl⟩) (.same s)
    · exact .same s
    · exact .same s
  | frameOpen => exact .ite _ (.same s) (.ite _ (.next ⟨rfl, rfl⟩) (.next ⟨rfl, rfl⟩))
  | timebaseTick =>
    change s.LeavesWaiting (execTimebaseTick s)
    unfold execTimebaseTick
    split
    · exact .same s
    · exact .ite _ (.next ⟨(State.countDown_untouched _).pending, (State.countDown_untouched _).mclk⟩) (.next ⟨rfl, rfl⟩)
    · exact .next (s.takeDue_untouched.trans (State.countDown_untouched _)).sameWaiting

end

/-- Settles O2. -/
theorem everyCommandKeepsTheQueue : Obligations.EveryCommandKeepsTheQueue := fun c s t h =>
  ⟨(exec_leavesWaiting s c t h).pending, (exec_leavesWaiting s c t h).mclk⟩

/-! ### Which commands complete -/

/-- How a command ends: in a next state; refused, when no row of the table carries its operands; in a fault, when an engine's
record names a free slot. -/
def Completes (c : Instr) (s : State) (o : Host.Outcome State Fault Refusal) : Prop :=
  (∃ t, o = .next t) ∨ (c.wf = false ∧ ∃ r, o = .refused r) ∨ (¬ s.RecordsHeld ∧ ∃ r, o = .fault r)

theorem Completes.next {c : Instr} {s : State} (t : State) : Completes c s (.next t) := .inl ⟨t, rfl⟩

theorem Completes.ite {c : Instr} {s : State} {a b : Host.Outcome State Fault Refusal} (p : Prop) [Decidable p]
    (ha : Completes c s a) (hb : Completes c s b) : Completes c s (if p then a else b) := by
  split
  · exact ha
  · exact hb

/-- A request that R1 does not allow is the one that REQUEST_TAKE refuses. -/
theorem execRequestTake_completes (req : Request) (s : State) : Completes (.requestTake req) s (execRequestTake req s) := by
  unfold execRequestTake
  split
  · next h => exact .inr (.inl ⟨(by simpa using h : req.wf = false), _, rfl⟩)
  · refine .ite _ (.next _) ?_
    split <;> exact .next _

theorem execBadcmd_completes (code : Byte) (s : State) : Completes (.badcmd code) s (execBadcmd code s) := by
  unfold execBadcmd
  split
  · exact .next _
  · next h => exact .inr (.inl ⟨Bool.not_eq_true _ ▸ h, _, rfl⟩)

theorem execSettleEvaluation_completes (s : State) : Completes .settleEvaluation s (execSettleEvaluation s) := by
  unfold execSettleEvaluation
  split
  · exact .next _
  · next r hr =>
    split
    · next i hphase =>
      split
      · exact .next _
      · next hc =>
        refine .inr (.inr ⟨fun h => ?_, _, rfl⟩)
        have hheld := h.fold r.pass i (by rw [hr, ← hphase])
        rw [hc] at hheld
        cases hheld
    · exact .next _
    · exact .next _

theorem execEndOfSearching_completes (s : State) : Completes .endOfSearching s (execEndOfSearching s) := by
  unfold execEndOfSearching
  split
  · exact .next _
  · next r hr =>
    split
    · next cands syn n hphase =>
      split
      · exact .next _
      · next hc =>
        refine .inr (.inr ⟨fun h => ?_, _, rfl⟩)
        have hheld := h.repair r.slot r.uid cands syn n (by rw [hr, ← hphase])
        rw [hc] at hheld
        cases hheld
    · exact .next _

theorem exec_completes (c : Instr) (s : State) : Completes c s (exec c s) := by
  cases c with
  | requestTake req => exact execRequestTake_completes req s
  | badcmd code => exact execBadcmd_completes code s
  | settleEvaluation => exact execSettleEvaluation_completes s
  | endOfSearching => exact execEndOfSearching_completes s
  | throughResponse code data =>
    change Completes _ s (execThroughResponse code data s)
    unfold execThroughResponse
    split
    · exact .next _
    · split <;> exact .next _
  | writeBackAnswer code =>
    change Completes _ s (execWriteBackAnswer code s)
    unfold execWriteBackAnswer
    split
    · exact .next _
    · split <;> exact .next _
  | coreReset =>
    change Completes _ s (execCoreReset s)
    unfold execCoreReset
    split
    · exact .next _
    · split <;> exact .next _
  | ready =>
    change Completes _ s (execReady s)
    unfold execReady
    split
    · exact .ite _ (.next _) (.next _)
    · exact .next _
    · exact .next _
  | timebaseTick =>
    change Completes _ s (execTimebaseTick s)
    unfold execTimebaseTick
    split
    · exact .next _
    · exact .ite _ (.next _) (.next _)
    · exact .next _
  | frameEnd => exact .ite _ (.ite _ (.next _) (.next _)) (.next _)
  | frameOpen => exact .ite _ (.next _) (.ite _ (.next _) (.next _))
  | grant => exact .ite _ (.next _) (.next _)
  | foldStart => exact .ite _ (.next _) (.next _)
  | entryEntersQueue => exact .ite _ (.next _) (.next _)
  | noticeAccepted => exact .ite _ (.next _) (.next _)
  | repairTake => exact .ite _ (.next _) (.next _)
  | pinResetDeassert refdiv => exact .ite _ (.next _) (.next _)
  | idleExpiry lane => exact .next _
  | holdExpiry initiator => exact .next _
  | readStatus => exact .next _
  | readFlags => exact .next _
  | clearFlags mask => exact .next _
  | setEnables value => exact .next _
  | writeProfile window field value => exact .next _
  | readProfile window field => exact .next _
  | openWindow window => exact .next _
  | closeWindow window => exact .next _
  | abandonWindow window => exact .next _
  | readCounters window => exact .next _
  | clearCounters window => exact .next _
  | queryUnit window unit => exact .next _
  | reopenUnit window unit => exact .next _
  | setRing ringBegin ringEnd => exact .next _
  | ringEnable => exact .next _
  | ringDisable => exact .next _
  | ringConsumed pointer => exact .next _
  | readRing => exact .next _
  | readFault => exact .next _
  | clearFault => exact .next _
  | pinResetAssert => exact .next _

/-- Settles O3: of the three ends of a command the hypotheses leave one. -/
theorem wellFormedCommandsComplete : Obligations.WellFormedCommandsComplete := by
  refine ⟨fun c s hwf hrec => ?completes, fun req s hwf => ?malformed, fun code s hknown => ?known, fun c s r hfault => ?fault⟩
  case completes =>
    obtain h | ⟨h, -⟩ | ⟨h, -⟩ := exec_completes c s
    · exact h
    · rw [hwf] at h; cases h
    · exact absurd hrec h
  case malformed => exact if_pos (by rw [hwf]; rfl)
  case known => exact if_neg (by rw [hknown]; exact Bool.false_ne_true)
  case fault =>
    obtain ⟨t, h⟩ | ⟨-, q, h⟩ | ⟨h, -⟩ := exec_completes c s
    · rw [hfault] at h; cases h
    · rw [hfault] at h; cases h
    · exact h

/-! ### The edges of RESET_N -/

theorem execPinResetDeassert_of_held (s : State) (d : BitVec 2) (h : s.run = .held) : exec (.pinResetDeassert d) s = .next { s with
    run := .recovering 0
    refdiv := d
    flags := s.flags ||| 0x800
    lastRefused := false
    resetSince := true
    resetCause := .pin } :=
  if_pos (beq_iff_eq.mpr h)

/-- Settles O4. -/
theorem pinResetMakesTheResetState : Obligations.PinResetMakesTheResetState := by
  intro s d
  refine ⟨_, rfl, ⟨rfl, rfl, rfl, rfl, rfl, rfl⟩, ?_⟩
  rw [execPinResetDeassert_of_held _ d rfl]
  simp only [State.resetBlocks, State.reset]
  rfl

/-- Settles O5. -/
theorem readyAtTheFourthTick : Obligations.ReadyAtTheFourthTick := by
  refine fun s => ⟨fun n hrun hlt => ⟨?tick, ?early⟩, fun n hrun hle => ?due, fun hrun req hwf => ?take, fun hrun hmsel => ?frame⟩
  case tick =>
    change execTimebaseTick s = _
    unfold execTimebaseTick
    rw [hrun]
    exact if_neg (Nat.not_le.mpr hlt)
  case early =>
    change execReady s = _
    unfold execReady
    rw [hrun]
    exact if_neg (Nat.not_le.mpr hlt)
  case due =>
    change execReady s = _
    unfold execReady
    rw [hrun]
    exact if_pos hle
  case take =>
    change execRequestTake req s = _
    unfold execRequestTake
    rw [if_neg (by rw [hwf]; exact Bool.false_ne_true), if_pos (by rw [bne_iff_ne.mpr hrun]; rfl)]
  case frame =>
    change execFrameOpen s = _
    unfold execFrameOpen
    rw [if_neg (by rw [hmsel]; exact Bool.false_ne_true), if_neg (fun h => hrun (beq_iff_eq.mp h))]

end Sys2Proof.Machine

/-! When nothing is due, kind of at-once step by kind, and what an event brings about in the few states where it takes one step
more: a store in every place of a record, the end of a drain, the hold test (R29, R31, R54, R129, R148, R162). -/

namespace Sys2Proof.Machine

/-! ### A change of every place -/

theorem foldl_set_get {α : Type} {n : Nat} (f : α → α) (j : Fin n) : ∀ (l : List (Fin n)) (v : Vector α n), l.Nodup →
    (l.foldl (fun v (k : Fin n) => v.set k.val (f v[k])) v)[j] = if j ∈ l then f v[j] else v[j]
  | [], v, _ => by simp
  | k :: l, v, hl => by
    obtain ⟨hk, hl⟩ := List.nodup_cons.mp hl
    rw [List.foldl_cons, foldl_set_get f j l _ hl]
    by_cases hj : j = k
    · subst hj
      simp [hk]
    · have hne : ¬ (k.val = j.val) := fun e => hj (Fin.ext e.symm)
      simp [hj, hne]

/-- A store in every place, one after the other, is one change of all. -/
theorem foldl_set_eq_map {α : Type} {n : Nat} (f : α → α) (v : Vector α n) :
    (List.finRange n).foldl (fun v (k : Fin n) => v.set k.val (f v[k])) v = v.map f := by
  refine Vector.ext fun i hi => ?_
  have h := foldl_set_get f ⟨i, hi⟩ (List.finRange n) v (List.nodup_finRange n)
  rw [if_pos (List.mem_finRange _)] at h
  rw [Vector.getElem_map]
  exact h

/-- Storing what a place holds changes nothing. -/
theorem set_getElem_eq {α : Type} {n : Nat} (v : Vector α n) (k : Fin n) {x : α} (h : v[k] = x) : v.set k.val x = v := by
  subst h
  exact Vector.set_getElem_self _

theorem map_eq_self {α : Type} {n : Nat} (f : α → α) (v : Vector α n) (h : ∀ k : Fin n, f v[k] = v[k]) : v.map f = v := by
  refine Vector.ext fun i hi => ?_
  rw [Vector.getElem_map]
  exact h ⟨i, hi⟩

/-- A lane without its late run of a window. -/
def Lane.dropLate (w : Fin 8) (l : Lane) : Lane := if l.runsLate w then { l with lateRun := none } else l

section
variable (s : State)

theorem State.dropLateRuns_eq (w : Fin 8) : s.dropLateRuns w = { s with lanes := s.lanes.map (Lane.dropLate w) } := by
  have step : ∀ (t : State) (k : Fin 4),
      (if t.lanes[k].runsLate w then t.setLane k { t.lanes[k] with lateRun := none } else t)
        = { t with lanes := t.lanes.set k.val (t.lanes[k].dropLate w) } := by
    intro t k
    unfold Lane.dropLate
    split
    · rfl
    · rw [set_getElem_eq t.lanes k rfl]
  have folded : ∀ (l : List (Fin 4)) (t : State),
      l.foldl (fun t k => if t.lanes[k].runsLate w then t.setLane k { t.lanes[k] with lateRun := none } else t) t
        = { t with lanes := l.foldl (fun v (k : Fin 4) => v.set k.val (v[k].dropLate w)) t.lanes } := by
    intro l
    induction l with
    | nil => intro t; rfl
    | cons k l ih => intro t; rw [List.foldl_cons, step, ih]; rfl
  unfold State.dropLateRuns
  rw [folded, foldl_set_eq_map]

/-! ### Changes of a window's state without waiting beats -/

theorem Active.reclassify_of_none (ws : Vector Window 8) (span : Addr → Bool) (a : Active) (h : a.waiting = []) :
    a.reclassify ws span = a := by
  unfold Active.reclassify
  rw [h]
  rfl

/-- With no beat waiting only the state changes. -/
theorem State.changeWindow_of_waiting (w : Fin 8) (x : WindowState) (h : ∀ a ∈ s.active, a.waiting = []) :
    s.changeWindow w x = { s with windows := s.windows.set w.val { s.windows[w] with state := x } } := by
  have same : ∀ (ws : Vector Window 8) (span : Addr → Bool), s.active.map (Active.reclassify ws span) = s.active :=
    fun ws span => (List.map_congr_left fun a ha => a.reclassify_of_none ws span (h a ha)).trans (List.map_id _)
  unfold State.changeWindow
  dsimp only
  rw [State.setWindow_active, same]
  rfl

theorem State.windowOff_of_waiting (w : Fin 8) (h : ∀ a ∈ s.active, a.waiting = []) : s.windowOff w = { s with
    windows := s.windows.set w.val { s.windows[w] with state := .off }
    lanes := s.lanes.map (Lane.dropLate w) } := by
  unfold State.windowOff
  rw [s.changeWindow_of_waiting w .off h, State.dropLateRuns_eq]

theorem State.endDrain_of_waiting (w : Fin 8) (h : ∀ a ∈ s.active, a.waiting = []) : s.endDrain w = { s with
    windows := s.windows.set w.val { s.windows[w] with state := .off }
    lanes := s.lanes.map (Lane.dropLate w)
    flags := s.flags ||| 0x080 } := by
  unfold State.endDrain
  rw [s.windowOff_of_waiting w h]
  rfl

/-! ### When a drain is due -/

theorem Lane.fills_iff (l : Lane) (w : Fin 8) : l.fills w = true ↔ ∃ f, l.filling = some f ∧ f.uid.window = w := by
  unfold Lane.fills
  cases l.filling <;> simp

/-- A window is pass-quiet when none of its passes is filling, staged or folding (R29). -/
theorem State.passQuiet_iff (w : Fin 8) : s.passQuiet w = true ↔
    (∀ k : Fin 4, s.lanes[k].fills w = false) ∧ (∀ p ∈ s.foldQueue, p.uid.window ≠ w) ∧ s.foldsIn w = false := by
  simp [State.passQuiet, and_assoc]

theorem State.unsettleDue_iff (i : Fin 32) : s.unsettleDue i = true ↔ ∃ c, s.contexts[i] = some c ∧ c.state = .opened
    ∧ s.windows[c.uid.window].state = .closing ∧ s.passQuiet c.uid.window = true := by
  unfold State.unsettleDue
  cases s.contexts[i] <;> simp [and_assoc]

theorem State.windowContexts_eq_nil (w : Fin 8) : s.windowContexts w = [] ↔
    ∀ (i : Fin 32) (c : Context), s.contexts[i] = some c → c.uid.window ≠ w := by
  rw [List.eq_nil_iff_forall_not_mem]
  constructor
  · exact fun h i c hc hw => h i ((s.mem_windowContexts w i).mpr ⟨c, hc, hw⟩)
  · rintro h i hi
    obtain ⟨c, hc, hw⟩ := (s.mem_windowContexts w i).mp hi
    exact h i c hc hw

theorem State.drainEnds_iff (w : Fin 8) : s.drainEnds w = true ↔
    s.windows[w].state = .closing ∧ s.passQuiet w = true ∧ s.windowContexts w = [] := by
  simp [State.drainEnds, and_assoc]

theorem State.unsettleSlots_eq_nil : s.unsettleSlots = [] ↔ ∀ i, s.unsettleDue i = false := by
  unfold State.unsettleSlots
  simp [List.filter_eq_nil_iff]

/-- No drain has a verdict to give or ends. -/
theorem State.atOnceDrain_none : s.atOnceDrain = none ↔
    (∀ i, s.unsettleDue i = false) ∧ ∀ w, s.drainEnds w = false := by
  unfold State.atOnceDrain
  cases hu : s.unsettleSlots with
  | cons i is =>
    refine ⟨nofun, fun h => ?_⟩
    rw [s.unsettleSlots_eq_nil.mpr h.1] at hu
    cases hu
  | nil => simp [s.unsettleSlots_eq_nil.mp hu, List.find?_eq_none]

/-- No drain becomes due when windows only leave CLOSING, none of those left becomes pass-quiet and the contexts stand. -/
theorem State.atOnceDrain_mono {s t : State} (h : s.atOnceDrain = none) (hc : t.contexts = s.contexts)
    (hw : ∀ w : Fin 8, t.windows[w].state = .closing → t.passQuiet w = true →
      s.windows[w].state = .closing ∧ s.passQuiet w = true) : t.atOnceDrain = none := by
  obtain ⟨hun, hend⟩ := s.atOnceDrain_none.mp h
  refine t.atOnceDrain_none.mpr ⟨fun i => ?_, fun w => ?_⟩
  · rw [Bool.eq_false_iff, ne_eq, State.unsettleDue_iff]
    rintro ⟨c, hi, ho, hclosing, hquiet⟩
    obtain ⟨hclosing, hquiet⟩ := hw _ hclosing hquiet
    exact Bool.eq_false_iff.mp (hun i) ((s.unsettleDue_iff i).mpr ⟨c, hc ▸ hi, ho, hclosing, hquiet⟩)
  · rw [Bool.eq_false_iff, ne_eq, State.drainEnds_iff]
    rintro ⟨hclosing, hquiet, hnil⟩
    obtain ⟨hclosing, hquiet⟩ := hw _ hclosing hquiet
    refine Bool.eq_false_iff.mp (hend w) ((s.drainEnds_iff w).mpr ⟨hclosing, hquiet, ?_⟩)
    unfold State.windowContexts at hnil ⊢
    rw [← hc]
    exact hnil

/-- Passes under way keep a window from being pass-quiet; one with more passes is no more quiet. -/
theorem State.passQuiet_mono {s t : State} {w : Fin 8} (h : t.passQuiet w = true)
    (hl : ∀ k : Fin 4, s.lanes[k].fills w = true → t.lanes[k].fills w = true) (hq : ∀ p ∈ s.foldQueue, p ∈ t.foldQueue)
    (hf : s.foldsIn w = true → t.foldsIn w = true) : s.passQuiet w = true := by
  rw [State.passQuiet_iff] at h ⊢
  obtain ⟨hlanes, hqueue, hfold⟩ := h
  refine ⟨fun k => ?_, fun p hp => hqueue p (hq p hp), ?_⟩
  · cases hk : s.lanes[k].fills w with
    | false => rfl
    | true => exact absurd (hl k hk) (Bool.eq_false_iff.mp (hlanes k))
  · cases hw : s.foldsIn w with
    | false => rfl
    | true => exact absurd (hf hw) (Bool.eq_false_iff.mp hfold)

/-! ### When a posting waits -/

theorem State.atOnceBacklog_none_congr {s t : State} (h : s.atOnceBacklog = none) (hr : t.ring = s.ring)
    (hp : t.postings = s.postings) : t.atOnceBacklog = none := by
  unfold State.atOnceBacklog State.movingBacklog at h ⊢
  rw [hr, hp]
  split
  · next hd => rw [if_pos hd] at h; cases h
  · rfl

theorem State.atOnceBacklog_of_empty (h : s.ring.backlog = []) : s.atOnceBacklog = none := by
  simp [State.atOnceBacklog, h]

theorem State.atOnceBacklog_of_disabled (h : s.ring.enabled = false) : s.atOnceBacklog = none := by
  simp [State.atOnceBacklog, h]

theorem State.queueHasRoom_of_full (h : 16 ≤ s.queue.length) : s.queueHasRoom = false :=
  decide_eq_false (Nat.not_lt.mpr h)

theorem State.queueHasRoom_of_lt (h : s.queue.length < 16) : s.queueHasRoom = true := decide_eq_true h

/-- A posting of a unit waits with its next entry behind a full queue. -/
theorem State.feed_of_full (x : Posting) (rest : List Posting) (p : PostStep) (steps : List PostStep) (u : UnitId)
    (hpost : s.postings = x :: rest) (hsteps : x.steps = p :: steps) (howner : x.owner = some u) (hp : p ≠ .notice)
    (hfull : 16 ≤ s.queue.length) : s.feed = none := by
  have waits : s.takeStep x p = none := by
    unfold State.takeStep
    rw [howner]
    cases p with
    | chunk j => exact if_neg (by rw [s.queueHasRoom_of_full hfull]; exact Bool.false_ne_true)
    | trailer => exact if_neg (by rw [s.queueHasRoom_of_full hfull]; exact Bool.false_ne_true)
    | notice => exact absurd rfl hp
  unfold State.feed
  simp only [hpost, hsteps, waits]

/-! ### Still states -/

/-- Quietness from its five parts. -/
theorem State.Quiet.of_parts (hb : ∀ a ∈ s.active, a.waiting = []) (hr : s.repairDue = false) (hf : s.foldDue = false)
    (hd : s.atOnceDrain = none) (hk : s.atOnceBacklog = none) (hp : s.feed = none) : s.Quiet :=
  s.quiet_iff.mpr ⟨s.atOnceBeats_of_waiting hb, s.atOnceTake_none.mpr ⟨hr, hf⟩, hd, hk, hp⟩

theorem State.Still.parts {s : State} (h : s.Still) : s.repairDue = false ∧ s.foldDue = false ∧ s.atOnceDrain = none
    ∧ s.atOnceBacklog = none ∧ s.feed = none := by
  obtain ⟨-, htake, hdrain, hback, hfeed⟩ := s.quiet_iff.mp h.quiet
  obtain ⟨hrepair, hfold⟩ := s.atOnceTake_none.mp htake
  exact ⟨hrepair, hfold, hdrain, hback, hfeed⟩

/-- A change that leaves the repair engine, the postings, the queue and the ring as they stand leaves a still state still when
no drain and no fold start becomes due. -/
theorem State.Still.of_drain {s t : State} (h : s.Still) (ha : ∀ a ∈ t.active, a.waiting = []) (hd : t.atOnceDrain = none)
    (hf : t.foldDue = false) (hr : t.repair = s.repair) (hrq : t.repairQueue = s.repairQueue) (hp : t.postings = s.postings)
    (hq : t.queue = s.queue) (hring : t.ring = s.ring) (ht : t.testDue = false) : t.Still := by
  obtain ⟨hrepair, -, -, hback, hfeed⟩ := h.parts
  refine ⟨.of_parts t ha ?_ hf hd (State.atOnceBacklog_none_congr hback hring hp)
    (State.feed_none_congr hp (by rw [hq]) hring hfeed), ha, ht⟩
  rw [State.repairDue, hr, hrq]
  exact hrepair

/-! ### The end of a drain at an event -/

/-- An event after which one drain ends and nothing else is due. -/
theorem State.settle_endDrain (w : Fin 8) (hb : ∀ a ∈ s.active, a.waiting = []) (hr : s.repairDue = false)
    (hf : s.foldDue = false) (hun : ∀ i, s.unsettleDue i = false) (hw : s.drainEnds w = true)
    (hothers : ∀ v, v ≠ w → s.drainEnds v = false) (hk : s.atOnceBacklog = none) (hp : s.feed = none) :
    s.settle = (s.endDrain w).testHolds := by
  have hfind : (List.finRange 8).find? s.drainEnds = some w := by
    cases h : (List.finRange 8).find? s.drainEnds with
    | none => exact absurd hw (List.find?_eq_none.mp h w (List.mem_finRange w))
    | some v =>
      by_cases hv : v = w
      · rw [hv]
      · have := List.find?_some h
        rw [hothers v hv] at this
        cases this
  have hstep : s.atOnce = some (s.endDrain w) := by
    have hdrain : s.atOnceDrain = some (s.endDrain w) := by
      unfold State.atOnceDrain
      rw [s.unsettleSlots_eq_nil.mpr hun, hfind]
      rfl
    unfold State.atOnce
    rw [s.atOnceBeats_of_waiting hb, s.atOnceTake_none.mpr ⟨hr, hf⟩, hdrain]
    rfl
  have parts := s.endDrain_of_waiting w hb
  have hpassQuiet : ∀ v, (s.endDrain w).passQuiet v = s.passQuiet v := by
    intro v
    have hlanes : ∀ k : Fin 4, (s.endDrain w).lanes[k].fills v = s.lanes[k].fills v := by
      intro k
      rw [parts]
      simp only [Fin.getElem_fin, Vector.getElem_map, Lane.dropLate]
      split <;> rfl
    simp only [State.passQuiet, hlanes]
    rw [parts]
    rfl
  have hclosing : ∀ v : Fin 8, (s.endDrain w).windows[v].state = .closing → v ≠ w ∧ s.windows[v].state = .closing := by
    intro v hv
    rw [parts] at hv
    have hv' := hv
    change (s.setWindow w { s.windows[w] with state := .off }).windows[v].state = .closing at hv'
    rw [State.setWindow_get] at hv'
    split at hv'
    · cases hv'
    · next hne => exact ⟨hne, hv'⟩
  have hcontexts : (s.endDrain w).contexts = s.contexts := by rw [parts]
  have hdone : (s.endDrain w).atOnceDrain = none := by
    refine (s.endDrain w).atOnceDrain_none.mpr ⟨fun i => ?_, fun v => ?_⟩
    · rw [Bool.eq_false_iff, ne_eq, State.unsettleDue_iff, hcontexts]
      rintro ⟨c, hc, ho, hcl, hquiet⟩
      exact Bool.eq_false_iff.mp (hun i)
        ((s.unsettleDue_iff i).mpr ⟨c, hc, ho, (hclosing _ hcl).2, (hpassQuiet _).symm.trans hquiet⟩)
    · rw [Bool.eq_false_iff, ne_eq, State.drainEnds_iff]
      rintro ⟨hcl, hquiet, hnil⟩
      obtain ⟨hne, hcl⟩ := hclosing v hcl
      refine Bool.eq_false_iff.mp (hothers v hne) ((s.drainEnds_iff v).mpr ⟨hcl, (hpassQuiet v).symm.trans hquiet, ?_⟩)
      unfold State.windowContexts at hnil ⊢
      rw [← hcontexts]
      exact hnil
  have hactive : (s.endDrain w).active = s.active := by rw [parts]
  have hquiet : (s.endDrain w).Quiet := by
    refine .of_parts _ (by rw [hactive]; exact hb) (by rw [parts]; exact hr) (by rw [parts]; exact hf) hdone
      (State.atOnceBacklog_none_congr hk (by rw [parts]) (by rw [parts]))
      (State.feed_none_congr (by rw [parts]) (by rw [parts]) (by rw [parts]) hp)
  have hthrough : s.through.length = (s.endDrain w).through.length := by rw [parts]
  rw [s.settle_of_step _ hstep hquiet, hthrough, State.orderJoined_length,
    State.markStalled_of_none _ (by rw [hactive]; exact hb)]

end

end Sys2Proof.Machine

/-! The timers: one tick, the expiry of an idle timer, the expiry of a hold (R50, R52, R147, R149, R181, R182). -/

namespace Sys2Proof.Machine

/-- A lane after one tick (R50). -/
def Lane.ticked (l : Lane) : Lane := { l with timer := l.timer.map (· - 1) }

/-- A hold after one tick (R147). -/
def HoldRecord.ticked (h : HoldRecord) : HoldRecord := { h with remaining := h.remaining - 1 }

section
variable (s : State)

theorem State.foldl_tickLane : ∀ (l : List (Fin 4)) (s : State), l.foldl State.tickLane s =
    { s with lanes := l.foldl (fun v (k : Fin 4) => v.set k.val v[k].ticked) s.lanes }
  | [], _ => rfl
  | k :: l, s => by rw [List.foldl_cons, State.foldl_tickLane l]; rfl

theorem State.foldl_tickHold : ∀ (l : List (Fin 4)) (s : State), l.foldl State.tickHold s =
    { s with holds := l.foldl (fun v (k : Fin 4) => v.set k.val (v[k].map HoldRecord.ticked)) s.holds }
  | [], _ => rfl
  | k :: l, s => by rw [List.foldl_cons, State.foldl_tickHold l]; rfl

/-- One tick counts every lane's timer and every hold timer. -/
theorem State.countDown_eq : s.countDown = { s with
    lanes := s.lanes.map Lane.ticked, holds := s.holds.map (Option.map HoldRecord.ticked) } := by
  unfold State.countDown
  rw [State.foldl_tickHold, State.foldl_tickLane]
  dsimp only
  rw [foldl_set_eq_map, foldl_set_eq_map]

theorem State.idleExpire_of_not_due (k : Fin 4) (h : s.lanes[k].timer ≠ some 0) : s.idleExpire k = s :=
  if_neg (by rw [State.idleDue, beq_eq_false_iff_ne.mpr h]; exact Bool.false_ne_true)

theorem State.idleExpire_of_due (k : Fin 4) (h : s.lanes[k].timer = some 0) : s.idleExpire k = (s.tear k).settle :=
  if_pos (by rw [State.idleDue, h]; rfl)

theorem State.holdExpire_of_not_due (k : Fin 4) (h : ∀ r : HoldRecord, s.holds[k] = some r → r.remaining ≠ 0) :
    s.holdExpire k = s := by
  unfold State.holdExpire
  split
  · next r hr => exact if_neg (h r hr)
  · rfl

/-- With no expiry due a tick takes none. -/
theorem State.takeDue_of_not_due (hl : ∀ k : Fin 4, s.lanes[k].timer ≠ some 0)
    (hh : ∀ (k : Fin 4) (r : HoldRecord), s.holds[k] = some r → r.remaining ≠ 0) : s.takeDue = s := by
  unfold State.takeDue
  rw [List.foldl_fixed' (fun k => s.idleExpire_of_not_due k (hl k)),
    List.foldl_fixed' (fun k => s.holdExpire_of_not_due k (hh k))]

end

/-- Settles O6. -/
theorem tickCountsEveryTimer : Obligations.TickCountsEveryTimer := by
  refine fun s => ⟨fun hrun hl hh => ?_, fun hrun => ?_⟩
  · have tick : execTimebaseTick s = .next s.takeDue.countDown := by
      unfold execTimebaseTick
      rw [hrun]
    change execTimebaseTick s = _
    rw [tick, s.takeDue_of_not_due hl hh, State.countDown_eq]
    rfl
  · change execTimebaseTick s = _
    unfold execTimebaseTick
    rw [hrun]

/-! ### Idle expiry -/

section
variable {s : State} {k : Fin 4} {f : Filling}

theorem State.tear_lane_fills (hf : s.lanes[k].filling = some f) (j : Fin 4) (w : Fin 8) :
    (s.tear k).lanes[j].fills w = if j = k then false else s.lanes[j].fills w := by
  rw [s.tear_of_filling k f hf]
  change (s.setLane k _).lanes[j].fills w = _
  rw [State.setLane_get]
  split <;> rfl

theorem State.tear_window_state (hf : s.lanes[k].filling = some f) (w : Fin 8) :
    (s.tear k).windows[w].state = s.windows[w].state := by
  rw [s.tear_of_filling k f hf]
  change (s.setWindow f.uid.window _).windows[w].state = _
  rw [State.setWindow_get]
  split
  · next h => subst h; rfl
  · rfl

/-- A tear makes a window pass-quiet only when the torn pass was the window's last. -/
theorem State.tear_passQuiet (hf : s.lanes[k].filling = some f) (w : Fin 8) : (s.tear k).passQuiet w = true ↔
    (∀ j : Fin 4, j ≠ k → s.lanes[j].fills w = false) ∧ (∀ p ∈ s.foldQueue, p.uid.window ≠ w) ∧ s.foldsIn w = false := by
  rw [State.passQuiet_iff]
  have hq : (s.tear k).foldQueue = s.foldQueue := by rw [s.tear_of_filling k f hf]
  have hfold : (s.tear k).foldsIn w = s.foldsIn w := by rw [s.tear_of_filling k f hf]; rfl
  rw [hq, hfold]
  refine and_congr_left fun _ => forall_congr' fun j => ?_
  rw [State.tear_lane_fills hf]
  by_cases hj : j = k <;> simp [hj]

/-- In a window that is not pass-quiet after the tear, or not CLOSING, a tear brings nothing about. -/
theorem State.Still.tear (h : s.Still) (hf : s.lanes[k].filling = some f)
    (hstays : s.windows[f.uid.window].state = .closing → (s.tear k).passQuiet f.uid.window = false) : (s.tear k).Still := by
  have hnot : ∀ w : Fin 8, (s.tear k).windows[w].state = .closing → (s.tear k).passQuiet w = true →
      s.windows[w].state = .closing ∧ s.passQuiet w = true := by
    intro w hw hq
    rw [State.tear_window_state hf] at hw
    refine ⟨hw, ?_⟩
    by_cases hwf : w = f.uid.window
    · rw [hwf] at hw hq
      rw [hstays hw] at hq
      cases hq
    · obtain ⟨hl, hrest⟩ := (State.tear_passQuiet hf w).mp hq
      refine (s.passQuiet_iff w).mpr ⟨fun j => ?_, hrest⟩
      by_cases hj : j = k
      · rw [hj, Lane.fills, hf]
        exact beq_false_of_ne fun e => hwf e.symm
      · exact hl j hj
  have parts := s.tear_of_filling k f hf
  refine h.of_drain (by rw [parts]; exact h.waiting) (State.atOnceDrain_mono h.parts.2.2.1 (by rw [parts]) hnot)
    (by rw [parts]; exact h.parts.2.1) (by rw [parts]) (by rw [parts]) (by rw [parts]) (by rw [parts]) (by rw [parts])
    (by rw [parts]; exact h.testDue)

/-- The tear of the last pass of a CLOSING window without contexts ends its drain. -/
theorem State.Still.settle_tear_closing (h : s.Still) (hf : s.lanes[k].filling = some f)
    (hw : s.windows[f.uid.window].state = .closing) (hctx : s.windowContexts f.uid.window = [])
    (hquiet : (s.tear k).passQuiet f.uid.window = true) : (s.tear k).settle = (s.tear k).endDrain f.uid.window := by
  have parts := s.tear_of_filling k f hf
  obtain ⟨hrepair, hfold, hdrain, hback, hfeed⟩ := h.parts
  obtain ⟨hun, hend⟩ := s.atOnceDrain_none.mp hdrain
  have hother : ∀ w : Fin 8, w ≠ f.uid.window → (s.tear k).passQuiet w = s.passQuiet w := by
    intro w hwf
    rw [Bool.eq_iff_iff, State.tear_passQuiet hf, State.passQuiet_iff]
    refine and_congr_left fun _ => ⟨fun hl j => ?_, fun hl j _ => hl j⟩
    by_cases hj : j = k
    · rw [hj, Lane.fills, hf]
      exact beq_false_of_ne fun e => hwf e.symm
    · exact hl j hj
  have hcontexts : (s.tear k).contexts = s.contexts := by rw [parts]
  have hnil : ∀ w, (s.tear k).windowContexts w = s.windowContexts w := fun w => by
    unfold State.windowContexts; rw [hcontexts]
  have hactive : ∀ a ∈ (s.tear k).active, a.waiting = [] := by rw [parts]; exact h.waiting
  rw [State.settle_endDrain (s.tear k) f.uid.window hactive (by rw [parts]; exact hrepair) (by rw [parts]; exact hfold)
    ?_ ?_ ?_ (State.atOnceBacklog_none_congr hback (by rw [parts]) (by rw [parts]))
    (State.feed_none_congr (by rw [parts]) (by rw [parts]) (by rw [parts]) hfeed)]
  · refine State.testHolds_of_not_due _ ?_
    rw [State.endDrain_of_waiting _ _ hactive, parts]
    exact h.testDue
  · intro i
    rw [Bool.eq_false_iff, ne_eq, State.unsettleDue_iff, hcontexts]
    rintro ⟨c, hi, ho, hc, hq⟩
    rw [State.tear_window_state hf] at hc
    by_cases hwf : c.uid.window = f.uid.window
    · exact (s.windowContexts_eq_nil _).mp hctx i c hi hwf
    · rw [hother _ hwf] at hq
      exact Bool.eq_false_iff.mp (hun i) ((s.unsettleDue_iff i).mpr ⟨c, hi, ho, hc, hq⟩)
  · rw [State.drainEnds_iff, State.tear_window_state hf, hnil]
    exact ⟨hw, hquiet, hctx⟩
  · intro w hwf
    rw [Bool.eq_false_iff, ne_eq, State.drainEnds_iff, State.tear_window_state hf, hnil, hother w hwf, ← State.drainEnds_iff]
    exact Bool.eq_false_iff.mp (hend w)

end

/-- Settles O7. -/
theorem idleExpiryTearsTheFillingPass : Obligations.IdleExpiryTearsTheFillingPass := by
  refine fun k s => ⟨fun f hs ht hf hopen => ?_, fun f hs ht hf => ?_, fun ht => ?_⟩
  · change Host.Outcome.next (s.idleExpire k) = _
    rw [s.idleExpire_of_due k ht, (hs.tear hf fun h => absurd h hopen).settle, s.tear_of_filling k f hf]
  · intro w hw hctx hl hq hfold
    change Host.Outcome.next (s.idleExpire k) = _
    rw [s.idleExpire_of_due k ht, hs.settle_tear_closing hf hw hctx ((State.tear_passQuiet hf _).mpr ⟨hl, hq, hfold⟩),
      State.endDrain_of_waiting _ _ (by rw [s.tear_of_filling k f hf]; exact hs.waiting), s.tear_of_filling k f hf]
    dsimp only
    congr 2
    simp [w]
  · change Host.Outcome.next (s.idleExpire k) = _
    rw [s.idleExpire_of_not_due k ht]

/-! ### Hold expiry -/

/-- Settles O8. -/
theorem holdExpiryLetsTheReadGoStale : Obligations.HoldExpiryLetsTheReadGoStale := by
  refine fun k s => ⟨fun h hh hdue => ?_, fun hh => ?_⟩
  · change Host.Outcome.next (s.holdExpire k) = _
    unfold State.holdExpire
    rw [hh]
    dsimp only
    rw [if_pos hdue]
    unfold State.countStale
    cases h.counting <;> rfl
  · change Host.Outcome.next (s.holdExpire k) = _
    rw [s.holdExpire_of_not_due k hh]

end Sys2Proof.Machine

/-! What a read waits for when it is taken (R143 to R147). -/

namespace Sys2Proof.Machine

/-- The lowest number of which a test holds. -/
theorem find?_finRange_iff {n : Nat} (p : Fin n → Bool) (i : Fin n) :
    (List.finRange n).find? p = some i ↔ p i = true ∧ ∀ j, j < i → p j = false := by
  rw [← Fin.find?_eq_find?_finRange, Fin.find?_eq_some_iff]

/-- Two byte ranges that wrap at 2 to the power 32 share a byte. -/
theorem bytesOverlap_iff (a b : Addr) (la lb : Nat) : bytesOverlap a la b lb = true ↔
    ∃ j l : Nat, j < la ∧ l < lb ∧ a + BitVec.ofNat 32 j = b + BitVec.ofNat 32 l := by
  simp only [bytesOverlap, Bool.and_eq_true, Bool.or_eq_true, decide_eq_true_eq]
  constructor
  · rintro ⟨⟨hla, hlb⟩, h | h⟩
    · exact ⟨(b - a).toNat, 0, h, hlb, by rw [BitVec.ofNat_toNat, BitVec.setWidth_eq]; bv_omega⟩
    · exact ⟨0, (a - b).toNat, hla, h, by rw [BitVec.ofNat_toNat, BitVec.setWidth_eq]; bv_omega⟩
  · rintro ⟨j, l, hj, hl, h⟩
    refine ⟨⟨by omega, by omega⟩, ?_⟩
    rcases Nat.le_total l j with hle | hle
    · have hd : b - a = BitVec.ofNat 32 (j - l) := by
        obtain ⟨d, rfl⟩ := Nat.exists_eq_add_of_le hle
        rw [BitVec.ofNat_add] at h
        rw [Nat.add_sub_cancel_left]
        bv_omega
      left
      rw [hd, BitVec.toNat_ofNat]
      exact (Nat.mod_le _ _).trans_lt (by omega)
    · have hd : a - b = BitVec.ofNat 32 (l - j) := by
        obtain ⟨d, rfl⟩ := Nat.exists_eq_add_of_le hle
        rw [BitVec.ofNat_add] at h
        rw [Nat.add_sub_cancel_left]
        bv_omega
      right
      rw [hd, BitVec.toNat_ofNat]
      exact (Nat.mod_le _ _).trans_lt (by omega)

section
variable (s : State)

/-- Only a window's hold limit can be 0; the ring's is 255 (R144, R146). -/
theorem State.itemLimit_ne_zero (i : HoldItem) : s.itemLimit i ≠ 0 ↔ ∀ w, i.window = some w → (s.profile w).holdLimit ≠ 0 := by
  unfold State.itemLimit
  cases i.window with
  | none => exact iff_of_true (show Config.ringHoldLimit ≠ 0 by decide) nofun
  | some v =>
    refine ⟨fun h w hw => ?_, fun h => h v rfl⟩
    cases hw
    exact h

theorem State.mem_overlaps (a : Addr) (n : Nat) (i : HoldItem) : i ∈ s.overlaps a n ↔ i ∈ s.holdItems
    ∧ (∃ j l : Nat, j < 4 * n ∧ l < i.length ∧ a + BitVec.ofNat 32 j = i.addr + BitVec.ofNat 32 l)
    ∧ s.itemLimit i ≠ 0 := by
  rw [State.overlaps, List.mem_filter, Bool.and_eq_true, bytesOverlap_iff, bne_iff_ne]

theorem State.mem_foldItems (i : HoldItem) : i ∈ s.foldItems ↔ ∃ r, s.fold = some r ∧ i = s.slotItem r.pass.uid := by
  unfold State.foldItems
  cases s.fold <;> simp

theorem State.mem_repairItems (i : HoldItem) : i ∈ s.repairItems ↔
    ∃ r v, s.repair = some r ∧ r.phase = .posting v ∧ i = s.slotItem r.uid := by
  unfold State.repairItems
  cases s.repair with
  | none => simp
  | some r => cases hp : r.phase <;> simp [hp]

theorem State.postingItem_iff (x : Posting) (i : HoldItem) : s.postingItem x = some i ↔
    (∃ c u, x.poster = .drain c ∧ x.owner = some u ∧ i = s.slotItem u) ∨ ∃ r, x.poster = .override r ∧ i = r.item := by
  unfold State.postingItem
  cases hp : x.poster <;> simp [eq_comm]

/-- The items of R144. -/
theorem State.mem_holdItems (i : HoldItem) : i ∈ s.holdItems ↔
    (∃ e ∈ s.queue, i = e.item) ∨ (∃ r, s.fold = some r ∧ i = s.slotItem r.pass.uid)
    ∨ (∃ r v, s.repair = some r ∧ r.phase = .posting v ∧ i = s.slotItem r.uid)
    ∨ (∃ x ∈ s.postings, ∃ c u, x.poster = .drain c ∧ x.owner = some u ∧ i = s.slotItem u)
    ∨ (∃ x ∈ s.postings, ∃ r, x.poster = .override r ∧ i = r.item)
    ∨ ∃ t ∈ s.through, ∃ r, t.record = some r ∧ i = r.item := by
  have entries : i ∈ s.queue.map Entry.item ↔ ∃ e ∈ s.queue, i = e.item := by simp [List.mem_map, eq_comm]
  have posted : i ∈ s.postings.filterMap s.postingItem ↔
      (∃ x ∈ s.postings, ∃ c u, x.poster = .drain c ∧ x.owner = some u ∧ i = s.slotItem u)
        ∨ ∃ x ∈ s.postings, ∃ r, x.poster = .override r ∧ i = r.item := by
    simp only [List.mem_filterMap, State.postingItem_iff, and_or_left, exists_or]
  have records : i ∈ s.through.filterMap (fun t => t.record.map OverrideRecord.item) ↔
      ∃ t ∈ s.through, ∃ r, t.record = some r ∧ i = r.item := by
    simp [List.mem_filterMap, eq_comm]
  simp only [State.holdItems, List.mem_append, entries, s.mem_foldItems, s.mem_repairItems, posted, records, or_assoc]

theorem State.Takes.exec_read {s : State} {k : Fin 4} {a : Addr} {n : Nat} (h : s.Takes ⟨k, a, .read n⟩) :
    exec (.requestTake ⟨k, a, .read n⟩) s = .next (s.takeRead k a n) := by
  change execRequestTake _ s = _
  unfold execRequestTake
  rw [if_neg (by simp [h.wf]), if_neg (by simp [h.ready, h.free])]

theorem State.Takes.exec_write {s : State} {k : Fin 4} {a : Addr} {beats : List Beat}
    (h : s.Takes ⟨k, a, .write beats⟩) :
    exec (.requestTake ⟨k, a, .write beats⟩) s = .next (s.takeWrite k a beats).settle := by
  change execRequestTake _ s = _
  unfold execRequestTake
  rw [if_neg (by simp [h.wf]), if_neg (by simp [h.ready, h.free])]

theorem exec_requestTake_of_busy (req : Request) (hwf : req.wf = true) (hb : s.busyInitiator req.initiator = true) :
    exec (.requestTake req) s = .next s := by
  change execRequestTake _ s = _
  unfold execRequestTake
  rw [if_neg (by simp [hwf]), if_pos (by simp [hb])]

end

/-- Settles O9. -/
theorem readWithoutOverlapIsForwardable : Obligations.ReadWithoutOverlapIsForwardable := by
  refine fun k a n s => ⟨fun ht hnone => ?_, fun req hwf hb => exec_requestTake_of_busy s req hwf hb, fun i => ?_, ?_⟩
  · have hold : s.newHold a n = none := by unfold State.newHold; rw [hnone]
    rw [ht.exec_read, State.takeRead, hold]
    rfl
  · rw [s.mem_overlaps, s.itemLimit_ne_zero]
    cases i.window <;> simp
  · exact fun i => s.mem_holdItems i

/-! ### A held read -/

/-- A running minimum is at most its start and every value. -/
theorem foldl_min_le {α : Type} (f : α → Nat) : ∀ (l : List α) (m : Nat),
    l.foldl (fun m i => min m (f i)) m ≤ m ∧ ∀ i ∈ l, l.foldl (fun m i => min m (f i)) m ≤ f i
  | [], m => ⟨Nat.le_refl m, nofun⟩
  | x :: l, m => by
    obtain ⟨hm, hl⟩ := foldl_min_le f l (min m (f x))
    rw [List.foldl_cons]
    refine ⟨by omega, fun i hi => ?_⟩
    rcases List.mem_cons.mp hi with rfl | hi
    · omega
    · exact hl i hi

/-- A running minimum is its start or one of the values. -/
theorem foldl_min_attained {α : Type} (f : α → Nat) : ∀ (l : List α) (m : Nat),
    l.foldl (fun m i => min m (f i)) m = m ∨ ∃ i ∈ l, f i = l.foldl (fun m i => min m (f i)) m
  | [], m => .inl rfl
  | x :: l, m => by
    rw [List.foldl_cons]
    rcases foldl_min_attained f l (min m (f x)) with h | ⟨i, hi, h⟩
    · rw [h]
      rcases Nat.le_total m (f x) with hle | hle
      · exact .inl (Nat.min_eq_left hle)
      · exact .inr ⟨x, List.mem_cons_self, (Nat.min_eq_right hle).symm⟩
    · exact .inr ⟨i, List.mem_cons_of_mem x hi, h⟩

section
variable {s : State}

theorem State.ProfilesLegal.itemLimit_le (h : s.ProfilesLegal) (i : HoldItem) : s.itemLimit i ≤ 255 := by
  unfold State.itemLimit
  cases i.window with
  | none => exact Nat.le_refl 255
  | some w =>
    obtain ⟨-, -, -, -, -, -, -, -, -, hold, -⟩ := (Profile.legal_iff _).mp (h w)
    exact hold

/-- The smallest limit brought is at most each of them, and one item brings it (R146). -/
theorem State.ProfilesLegal.holdLimit_attained (h : s.ProfilesLegal) {items : List HoldItem} (hne : items ≠ []) :
    (∀ i ∈ items, s.holdLimit items ≤ s.itemLimit i) ∧ ∃ i ∈ items, s.itemLimit i = s.holdLimit items := by
  obtain ⟨hstart, hleast⟩ := foldl_min_le s.itemLimit items Config.ringHoldLimit
  refine ⟨hleast, ?_⟩
  rcases foldl_min_attained s.itemLimit items Config.ringHoldLimit with he | he
  · obtain ⟨i, hi⟩ := List.exists_mem_of_ne_nil items hne
    refine ⟨i, hi, le_antisymm ((h.itemLimit_le i).trans_eq ?_) (hleast i hi)⟩
    exact he.symm
  · exact he

theorem State.countingWindow_iff (items : List HoldItem) (w : Fin 8) : s.countingWindow items = some w ↔
    (∃ i ∈ items, i.window = some w ∧ s.itemLimit i = s.holdLimit items)
    ∧ ∀ v : Fin 8, v < w → ¬ ∃ i ∈ items, i.window = some v ∧ s.itemLimit i = s.holdLimit items := by
  unfold State.countingWindow
  rw [find?_finRange_iff]
  simp [Bool.eq_false_iff]

theorem State.newHold_of_overlaps (a : Addr) (n : Nat) (h : s.overlaps a n ≠ []) : s.newHold a n = some
    ⟨a, n, s.holdLimit (s.overlaps a n), s.holdLimit (s.overlaps a n), s.countingWindow (s.overlaps a n)⟩ := by
  unfold State.newHold
  cases ho : s.overlaps a n with
  | nil => exact absurd ho h
  | cons i is => rfl

end

/-- Settles O10. -/
theorem overlappingReadIsHeld : Obligations.OverlappingReadIsHeld := by
  intro k a n s ht hlegal hne
  obtain ⟨hleast, i, hi, hlimit⟩ := hlegal.holdLimit_attained hne
  refine ⟨⟨a, n, s.holdLimit (s.overlaps a n), s.holdLimit (s.overlaps a n), s.countingWindow (s.overlaps a n)⟩,
    ?_, rfl, rfl, rfl, ?_, ?_, hleast, ⟨i, hi, hlimit⟩, State.countingWindow_iff _⟩
  · rw [ht.exec_read, State.takeRead, State.newHold_of_overlaps a n hne]
    rfl
  · obtain ⟨-, -, hzero⟩ := (s.mem_overlaps a n i).mp hi
    dsimp only
    omega
  · dsimp only
    rw [← hlimit]
    exact hlegal.itemLimit_le i

end Sys2Proof.Machine

/-! The arbiter, and the grant of the queue head (R131, R136 to R138, R148). -/

namespace Sys2Proof.Machine

section
variable {s : State}

/-- No drain becomes due when windows only leave CLOSING, none of those left becomes pass-quiet, no further context is OPEN,
and every CLOSING window with a context keeps one. -/
theorem State.atOnceDrain_less {s t : State} (h : s.atOnceDrain = none)
    (hw : ∀ w : Fin 8, t.windows[w].state = .closing → t.passQuiet w = true →
      s.windows[w].state = .closing ∧ s.passQuiet w = true)
    (hopen : ∀ (i : Fin 32) (c : Context), t.contexts[i] = some c → c.state = .opened →
      ∃ (j : Fin 32) (d : Context), s.contexts[j] = some d ∧ d.state = .opened ∧ d.uid = c.uid)
    (hend : ∀ (i : Fin 32) (c : Context), s.contexts[i] = some c → s.windows[c.uid.window].state = .closing →
      ∃ (j : Fin 32) (d : Context), t.contexts[j] = some d ∧ d.uid.window = c.uid.window) : t.atOnceDrain = none := by
  obtain ⟨hun, hends⟩ := s.atOnceDrain_none.mp h
  refine t.atOnceDrain_none.mpr ⟨fun i => ?_, fun w => ?_⟩
  · rw [Bool.eq_false_iff, ne_eq, State.unsettleDue_iff]
    rintro ⟨c, hi, ho, hclosing, hquiet⟩
    obtain ⟨j, d, hj, hd, hu⟩ := hopen i c hi ho
    obtain ⟨hclosing, hquiet⟩ := hw _ hclosing hquiet
    rw [← hu] at hclosing hquiet
    exact Bool.eq_false_iff.mp (hun j) ((s.unsettleDue_iff j).mpr ⟨d, hj, hd, hclosing, hquiet⟩)
  · rw [Bool.eq_false_iff, ne_eq, State.drainEnds_iff, State.windowContexts_eq_nil]
    rintro ⟨hclosing, hquiet, hnil⟩
    obtain ⟨hclosing, hquiet⟩ := hw _ hclosing hquiet
    refine Bool.eq_false_iff.mp (hends w) ((s.drainEnds_iff w).mpr ⟨hclosing, hquiet, ?_⟩)
    refine (s.windowContexts_eq_nil w).mpr fun i c hi hcw => ?_
    obtain ⟨j, d, hj, hd⟩ := hend i c hi (hcw ▸ hclosing)
    exact hnil j d hj (hd.trans hcw)

/-- A change that leaves the engines' queues, the ring and the requests as they stand brings about no more than a hold test
when no drain, no fold start and no posting step becomes due. -/
theorem State.Still.settle_testHolds {s t : State} (h : s.Still) (ha : t.active = s.active) (hd : t.atOnceDrain = none)
    (hf : t.foldDue = false) (hr : t.repair = s.repair) (hrq : t.repairQueue = s.repairQueue) (hring : t.ring = s.ring)
    (hp : t.postings = s.postings) (hfeed : t.feed = none) : t.settle = t.testHolds := by
  obtain ⟨hrepair, -, -, hback, -⟩ := h.parts
  have hwait : ∀ a ∈ t.active, a.waiting = [] := by rw [ha]; exact h.waiting
  have hquiet : t.Quiet := .of_parts t hwait (by rw [State.repairDue, hr, hrq]; exact hrepair) hf hd
    (State.atOnceBacklog_none_congr hback hring hp) hfeed
  rw [t.settle_of_quiet hquiet, t.markStalled_of_none hwait]

/-! ### Hold tests -/

/-- A held read stays held while a counted overlap is left (R148). -/
def State.keepsHold (s : State) (h : HoldRecord) : Bool := s.overlaps h.addr h.count != []

theorem State.testHold_eq (s : State) (k : Fin 4) :
    s.testHold k = { s with holds := s.holds.set k.val (s.holds[k].filter s.keepsHold) } := by
  unfold State.testHold
  cases hk : s.holds[k] with
  | none =>
    dsimp only [Option.filter_none]
    rw [set_getElem_eq s.holds k hk]
  | some h =>
    dsimp only
    by_cases ho : s.overlaps h.addr h.count = []
    · rw [if_pos ho, Option.filter_some, if_neg (by simp [State.keepsHold, ho])]
      rfl
    · rw [if_neg ho, Option.filter_some, if_pos (by simp [State.keepsHold, ho]), set_getElem_eq s.holds k hk]

theorem State.foldl_testHold : ∀ (l : List (Fin 4)) (s : State), l.foldl State.testHold s = { s with
    holds := l.foldl (fun v (k : Fin 4) => v.set k.val (v[k].filter s.keepsHold)) s.holds }
  | [], _ => rfl
  | k :: l, s => by
    rw [List.foldl_cons, State.foldl_testHold l, State.testHold_eq]
    rfl

/-- A due hold test tests every held read. -/
theorem State.testHolds_of_due (h : s.testDue = true) : s.testHolds = { s with
    holds := s.holds.map (Option.filter s.keepsHold), testDue := false } := by
  unfold State.testHolds
  rw [if_pos h, State.foldl_testHold, foldl_set_eq_map (Option.filter s.keepsHold)]

/-! ### The arbiter's choice -/

theorem State.anyHeld_iff : s.anyHeld = true ↔ ∃ k : Fin 4, s.holds[k] ≠ none := by
  simp [State.anyHeld]

theorem State.queueFirst_iff : s.queueFirst = true ↔
    (∃ k : Fin 4, s.holds[k] ≠ none) ∨ 12 ≤ s.queue.length ∨ s.runCount = 8 := by
  rw [State.queueFirst, Bool.or_eq_true, Bool.or_eq_true, State.anyHeld_iff, decide_eq_true_eq, beq_iff_eq, or_assoc]
  rfl

theorem State.queueFirst_eq_false : s.queueFirst = false ↔
    (∀ k : Fin 4, s.holds[k] = none) ∧ s.queue.length < 12 ∧ s.runCount ≠ 8 := by
  rw [Bool.eq_false_iff, ne_eq, State.queueFirst_iff]
  simp

theorem exec_grant_of_running (h : s.run ≠ .held) : exec .grant s = .next s.arbitrate := by
  change execGrant s = _
  unfold execGrant
  rw [if_neg (by simpa using h)]

theorem State.arbitrate_of_none (hc : s.throughCandidate = none) (hq : s.queue = []) : s.arbitrate = s := by
  unfold State.arbitrate
  rw [hc, hq]

theorem State.arbitrate_of_head {e : Entry} {q : List Entry} (hq : s.queue = e :: q)
    (h : s.throughCandidate = none ∨ s.queueFirst = true) : s.arbitrate = (s.grantEntry e q).settle := by
  unfold State.arbitrate
  rw [hq]
  cases hc : s.throughCandidate with
  | none => rfl
  | some x =>
    rcases h with h | h
    · rw [hc] at h
      cases h
    · exact if_pos h

theorem State.arbitrate_of_through {x : Through} {rest : List Through} (hc : s.throughCandidate = some (x, rest))
    (h : s.queue = [] ∨ s.queueFirst = false) : s.arbitrate = s.afterThrough x rest := by
  unfold State.arbitrate
  rw [hc]
  cases hq : s.queue with
  | nil => rfl
  | cons e q =>
    rcases h with h | h
    · rw [hq] at h
      cases h
    · exact if_neg (by rw [h]; exact Bool.false_ne_true)

theorem State.grantEntry_issued (e : Entry) (q : List Entry) : (s.grantEntry e q).settle.issued = s.issued ++ [e.issue] := by
  rw [(State.settle_untouched _).issued]
  exact (State.countOut_untouched _ e).issued

theorem State.afterThrough_issued (x : Through) (rest : List Through) :
    (s.afterThrough x rest).issued = s.issued ++ [⟨.initiator x.initiator, x.addr, x.transfer⟩] := by
  unfold State.afterThrough
  cases x.record with
  | none => rfl
  | some r => exact (State.settle_untouched _).issued

end

/-- Settles O20. -/
theorem arbiterChoosesByTheTable : Obligations.ArbiterChoosesByTheTable := by
  refine fun s hrun => ⟨fun hc hq => ?_, fun e q hq h => ?_, fun x rest hc h => ?_⟩
  · rw [exec_grant_of_running hrun, State.arbitrate_of_none hc hq]
  · refine ⟨_, exec_grant_of_running hrun, ?_⟩
    rw [State.arbitrate_of_head hq (h.imp_right State.queueFirst_iff.mpr)]
    exact State.grantEntry_issued e q
  · refine ⟨_, exec_grant_of_running hrun, ?_⟩
    rw [State.arbitrate_of_through hc (h.imp_right State.queueFirst_eq_false.mpr)]
    exact State.afterThrough_issued x rest

/-! ### The grant of the queue head -/

/-- The head of the queue issued (R131), with the unit table and the free list as the owner's count leaves them. -/
def State.issueHead (s : State) (e : Entry) (q : List Entry) (contexts : Vector (Option Context) 32) (freeList : List Nat) :
    State :=
  { s with
    queue := q, runCount := 0, issued := s.issued ++ [e.issue], testDue := true
    contexts := contexts, freeList := freeList }

theorem Context.done_iff (c : Context) : c.done = true ↔ c.state = .draining ∧ c.posting = false ∧ c.outstanding = 0 := by
  simp [Context.done, and_assoc]

section
variable {s : State} {e : Entry} {q : List Entry} {u : UnitId} {i : Fin 32} {c : Context}

theorem State.grantEntry_of_uncounted (h : e.counted = false ∨ e.owner = none) :
    s.grantEntry e q = s.issueHead e q s.contexts s.freeList := by
  unfold State.grantEntry State.countOut
  rcases h with h | h
  · rw [h]; rfl
  · rw [h]; cases e.counted <;> rfl

theorem State.grantEntry_of_counted (hcount : e.counted = true) (hown : e.owner = some u) (hfind : s.findContext u = some i) :
    s.grantEntry e q = ((s.issueHead e q s.contexts s.freeList).modifyContext i Context.countOut).releaseIfDone i := by
  have hfind' : (s.issueHead e q s.contexts s.freeList).findContext u = some i := hfind
  change (s.issueHead e q s.contexts s.freeList).countOut e = _
  unfold State.countOut
  rw [hcount, hown]
  dsimp only
  rw [hfind']

theorem State.grantEntry_of_left (hcount : e.counted = true) (hown : e.owner = some u) (hfind : s.findContext u = some i)
    (hc : s.contexts[i] = some c) (hpos : 1 ≤ c.outstanding)
    (hleft : ¬ (c.state = .draining ∧ c.posting = false ∧ c.outstanding = 1)) :
    s.grantEntry e q
      = s.issueHead e q (s.contexts.set i.val (some { c with outstanding := c.outstanding - 1 })) s.freeList := by
  have held := State.setContext_get_self (s.issueHead e q s.contexts s.freeList) i (some c.countOut)
  have left : c.countOut.done = false := by
    rw [Bool.eq_false_iff, ne_eq, Context.done_iff]
    rintro ⟨hs, hp, ho⟩
    refine hleft ⟨hs, hp, ?_⟩
    change c.outstanding - 1 = 0 at ho
    omega
  rw [State.grantEntry_of_counted hcount hown hfind,
    State.modifyContext_of_held (s.issueHead e q s.contexts s.freeList) i _ c hc, State.releaseIfDone_of_not_done _ i _ held left]
  rfl

theorem State.grantEntry_of_last (hcount : e.counted = true) (hown : e.owner = some u) (hfind : s.findContext u = some i)
    (hc : s.contexts[i] = some c) (hs : c.state = .draining) (hp : c.posting = false) (ho : c.outstanding = 1) :
    s.grantEntry e q = s.issueHead e q (s.contexts.set i.val none) (s.freeList ++ c.granules) := by
  have held := State.setContext_get_self (s.issueHead e q s.contexts s.freeList) i (some c.countOut)
  have last : c.countOut.done = true := c.countOut.done_iff.mpr ⟨hs, hp, by simp [Context.countOut, ho]⟩
  rw [State.grantEntry_of_counted hcount hown hfind,
    State.modifyContext_of_held (s.issueHead e q s.contexts s.freeList) i _ c hc, State.releaseIfDone_of_done _ i _ held last,
    State.release_of_held _ i _ held]
  simp [State.setContext, State.issueHead, Context.countOut]

/-- A context written back into its slot with its unit, and OPEN only where it was, makes no drain due. -/
theorem State.atOnceDrain_setContext {s t : State} (h : s.atOnceDrain = none) {i : Fin 32} {c d : Context}
    (hc : s.contexts[i] = some c) (hu : d.uid = c.uid) (hs : d.state = .opened → c.state = .opened)
    (ht : t.contexts = s.contexts.set i.val (some d)) (hw : ∀ w : Fin 8, t.windows[w].state = s.windows[w].state)
    (hq : ∀ w, t.passQuiet w = s.passQuiet w) : t.atOnceDrain = none := by
  have get : ∀ j : Fin 32, t.contexts[j] = if j = i then some d else s.contexts[j] := fun j => by
    rw [ht]
    exact s.setContext_get i j (some d)
  refine State.atOnceDrain_less h (fun w hcl hquiet => ⟨(hw w) ▸ hcl, (hq w) ▸ hquiet⟩) (fun j x hj ho => ?_) fun j x hj _ => ?_
  · rw [get] at hj
    split at hj
    · cases hj
      exact ⟨i, c, hc, hs ho, hu.symm⟩
    · exact ⟨j, x, hj, ho, rfl⟩
  · by_cases hji : j = i
    · subst hji
      rw [hc] at hj
      cases hj
      exact ⟨j, d, by rw [get, if_pos rfl], by rw [hu]⟩
    · exact ⟨j, x, by rw [get, if_neg hji, hj], rfl⟩

/-- A released context of a window that is not CLOSING makes no drain due. -/
theorem State.atOnceDrain_release {s t : State} (h : s.atOnceDrain = none) {i : Fin 32} {c : Context}
    (hc : s.contexts[i] = some c) (hopen : s.windows[c.uid.window].state ≠ .closing)
    (ht : t.contexts = s.contexts.set i.val none) (hw : ∀ w : Fin 8, t.windows[w].state = s.windows[w].state)
    (hq : ∀ w, t.passQuiet w = s.passQuiet w) : t.atOnceDrain = none := by
  have get : ∀ j : Fin 32, t.contexts[j] = if j = i then none else s.contexts[j] := fun j => by
    rw [ht]
    exact s.setContext_get i j none
  refine State.atOnceDrain_less h (fun w hcl hquiet => ⟨(hw w) ▸ hcl, (hq w) ▸ hquiet⟩) (fun j x hj ho => ?_) fun j x hj hclosing => ?_
  · rw [get] at hj
    split at hj
    · cases hj
    · exact ⟨j, x, hj, ho, rfl⟩
  · have hji : j ≠ i := by
      rintro rfl
      rw [hc] at hj
      cases hj
      exact hopen hclosing
    exact ⟨j, x, by rw [get, if_neg hji, hj], rfl⟩

/-- What a grant of the queue head leaves to do: a hold test. -/
theorem State.Still.settle_issueHead (h : s.Still) (hp : s.postings = []) {contexts : Vector (Option Context) 32}
    {freeList : List Nat} (hd : (s.issueHead e q contexts freeList).atOnceDrain = none) :
    (s.issueHead e q contexts freeList).settle = (s.issueHead e q contexts freeList).testHolds :=
  h.settle_testHolds rfl hd h.parts.2.1 rfl rfl rfl rfl (State.feed_of_no_posting _ hp)

theorem State.Still.settle_uncounted (h : s.Still) (hp : s.postings = []) (hcount : e.counted = false ∨ e.owner = none) :
    (s.grantEntry e q).settle = (s.issueHead e q s.contexts s.freeList).testHolds := by
  rw [State.grantEntry_of_uncounted hcount]
  exact h.settle_issueHead hp (State.atOnceDrain_mono h.parts.2.2.1 rfl fun _ hw hq => ⟨hw, hq⟩)

theorem State.Still.settle_left (h : s.Still) (hp : s.postings = []) (hcount : e.counted = true) (hown : e.owner = some u)
    (hfind : s.findContext u = some i) (hc : s.contexts[i] = some c) (hpos : 1 ≤ c.outstanding)
    (hleft : ¬ (c.state = .draining ∧ c.posting = false ∧ c.outstanding = 1)) : (s.grantEntry e q).settle
      = (s.issueHead e q (s.contexts.set i.val (some { c with outstanding := c.outstanding - 1 })) s.freeList).testHolds := by
  rw [State.grantEntry_of_left hcount hown hfind hc hpos hleft]
  exact h.settle_issueHead hp (State.atOnceDrain_setContext (d := { c with outstanding := c.outstanding - 1 })
    h.parts.2.2.1 hc rfl (fun ho => ho) rfl (fun _ => rfl) fun _ => rfl)

/-- The unit found has its context in the slot found. -/
theorem State.uid_of_findContext (hfind : s.findContext u = some i) (hc : s.contexts[i] = some c) : c.uid = u := by
  obtain ⟨d, hd, hu⟩ := s.findContext_some u i hfind
  rw [hc] at hd
  cases hd
  exact hu

theorem State.Still.settle_last (h : s.Still) (hp : s.postings = []) (hcount : e.counted = true) (hown : e.owner = some u)
    (hfind : s.findContext u = some i) (hc : s.contexts[i] = some c) (hs : c.state = .draining) (hpost : c.posting = false)
    (ho : c.outstanding = 1) (hopen : s.windows[u.window].state ≠ .closing) : (s.grantEntry e q).settle
      = (s.issueHead e q (s.contexts.set i.val none) (s.freeList ++ c.granules)).testHolds := by
  rw [State.grantEntry_of_last hcount hown hfind hc hs hpost ho]
  refine h.settle_issueHead hp (State.atOnceDrain_release h.parts.2.2.1 hc ?_ rfl (fun _ => rfl) fun _ => rfl)
  have hcu := State.uid_of_findContext hfind hc
  subst hcu
  exact hopen

/-- The grant of the last entry of a CLOSING window's last context ends the drain (R31). -/
theorem State.Still.settle_lastOfDrain (h : s.Still) (hp : s.postings = []) (hcount : e.counted = true)
    (hown : e.owner = some u) (hfind : s.findContext u = some i) (hc : s.contexts[i] = some c) (hs : c.state = .draining)
    (hpost : c.posting = false) (ho : c.outstanding = 1) (hclosing : s.windows[u.window].state = .closing)
    (hquiet : s.passQuiet u.window = true) (honly : s.windowContexts u.window = [i]) : (s.grantEntry e q).settle
      = ((s.issueHead e q (s.contexts.set i.val none) (s.freeList ++ c.granules)).endDrain u.window).testHolds := by
  obtain ⟨hrepair, hfold, hdrain, hback, -⟩ := h.parts
  obtain ⟨hun, hend⟩ := s.atOnceDrain_none.mp hdrain
  have hcu := State.uid_of_findContext hfind hc
  rw [State.grantEntry_of_last hcount hown hfind hc hs hpost ho]
  have get : ∀ j : Fin 32, (s.issueHead e q (s.contexts.set i.val none) (s.freeList ++ c.granules)).contexts[j]
      = if j = i then none else s.contexts[j] := fun j => s.setContext_get i j none
  refine State.settle_endDrain _ u.window h.waiting hrepair hfold (fun j => ?_) ?_ (fun w hw => ?_)
    (State.atOnceBacklog_none_congr hback rfl rfl) (State.feed_of_no_posting _ hp)
  · rw [Bool.eq_false_iff, ne_eq, State.unsettleDue_iff]
    rintro ⟨x, hj, hx⟩
    rw [get] at hj
    split at hj
    · cases hj
    · exact Bool.eq_false_iff.mp (hun j) ((s.unsettleDue_iff j).mpr ⟨x, hj, hx⟩)
  · refine (State.drainEnds_iff _ _).mpr ⟨hclosing, hquiet, (State.windowContexts_eq_nil _ _).mpr fun j x hj hx => ?_⟩
    rw [get] at hj
    split at hj
    · cases hj
    · next hji =>
      have : j ∈ s.windowContexts u.window := (s.mem_windowContexts _ j).mpr ⟨x, hj, hx⟩
      rw [honly] at this
      exact hji (List.mem_singleton.mp this)
  · rw [Bool.eq_false_iff, ne_eq, State.drainEnds_iff, State.windowContexts_eq_nil]
    rintro ⟨hcw, hqw, hnil⟩
    refine Bool.eq_false_iff.mp (hend w) ((s.drainEnds_iff w).mpr ⟨hcw, hqw, ?_⟩)
    refine (s.windowContexts_eq_nil w).mpr fun j x hj hx => hnil j x ?_ hx
    rw [get, if_neg, hj]
    rintro rfl
    rw [hc] at hj
    cases hj
    exact hw (hx.symm.trans (by rw [hcu]))

/-- With no read held the hold test after a grant only clears its mark. -/
theorem State.Still.issueHead_testHolds (h : s.Still) (hh : ∀ k : Fin 4, s.holds[k] = none)
    (contexts : Vector (Option Context) 32) (freeList : List Nat) :
    (s.issueHead e q contexts freeList).testHolds = { s with
      queue := q, runCount := 0, issued := s.issued ++ [e.issue], contexts := contexts, freeList := freeList } := by
  rw [State.testHolds_of_no_hold (s.issueHead e q contexts freeList) hh, ← h.testDue]
  rfl

/-- A grant tests the held reads against the items it leaves (R148). -/
theorem State.Still.issueHead_tested (h : s.Still) (contexts : Vector (Option Context) 32) (freeList : List Nat) :
    (s.issueHead e q contexts freeList).testHolds = { s with
      queue := q, runCount := 0, issued := s.issued ++ [e.issue], contexts := contexts, freeList := freeList
      holds := s.holds.map (Option.filter (State.keepsHold { s with queue := q })) } := by
  rw [State.testHolds_of_due (s := s.issueHead e q contexts freeList) rfl, ← h.testDue]
  rfl

end

/-- Settles O21. -/
theorem grantOfTheQueueHead : Obligations.GrantOfTheQueueHead := by
  refine ⟨fun s e q hrun hs hp hh hq hchoice => ?_, fun s e q hrun hs hp hq hchoice => ?_⟩
  · have grant : exec .grant s = .next (s.grantEntry e q).settle := by
      rw [exec_grant_of_running hrun, State.arbitrate_of_head hq (hchoice.imp_right fun h => State.queueFirst_iff.mpr (.inr h))]
    refine ⟨fun hcount => ?_, fun u i c hcount hown hfind hc hpos hleft => ?_,
      fun u i c hcount hown hfind hc hst hpost ho hopen => ?_,
      fun u i c hcount hown hfind hc hst hpost ho hclosing hquiet honly => ?_⟩
    · rw [grant, hs.settle_uncounted hp hcount, hs.issueHead_testHolds hh]
      rfl
    · rw [grant, hs.settle_left hp hcount hown hfind hc hpos hleft, hs.issueHead_testHolds hh]
      rfl
    · rw [grant, hs.settle_last hp hcount hown hfind hc hst hpost ho hopen, hs.issueHead_testHolds hh]
      rfl
    · rw [grant, hs.settle_lastOfDrain hp hcount hown hfind hc hst hpost ho hclosing hquiet honly,
        State.endDrain_of_waiting _ _ (by exact hs.waiting), State.testHolds_of_no_hold _ (by exact hh), ← hs.testDue]
      rfl
  · have grant : exec .grant s = .next (s.grantEntry e q).settle := by
      rw [exec_grant_of_running hrun, State.arbitrate_of_head hq (hchoice.imp_right State.queueFirst_iff.mpr)]
    refine ⟨fun hcount => ?_, fun u i c hcount hown hfind hc hpos hleft => ?_⟩
    · rw [grant, hs.settle_uncounted hp hcount, hs.issueHead_tested]
      rfl
    · rw [grant, hs.settle_left hp hcount hown hfind hc hpos hleft, hs.issueHead_tested]
      rfl

end Sys2Proof.Machine

/-! The grant of a through-transaction, the posting of an override, and the answers of memory (R12, R13, R18, R134 to R138). -/

namespace Sys2Proof.Machine

/-- The first element of which `p` holds is found where it stands. -/
theorem takeFirst_append {α : Type} (p : α → Bool) (x : α) (after : List α) (hx : p x = true) :
    ∀ before : List α, (∀ y ∈ before, p y = false) → takeFirst p (before ++ x :: after) = some (x, before ++ after)
  | [], _ => by rw [List.nil_append, takeFirst, if_pos hx]; rfl
  | y :: before, h => by
    obtain ⟨hy, hb⟩ := List.forall_mem_cons.mp h
    rw [List.cons_append, takeFirst, if_neg (by rw [hy]; exact Bool.false_ne_true), takeFirst_append p x after hx before hb]
    rfl

section
variable {s : State}

theorem State.forwardable_eq_false (t : Through) : s.forwardable t = false ↔
    (∃ n, t.transfer = .read n) ∧ s.holds[t.initiator] ≠ none := by
  unfold State.forwardable
  cases t.transfer with
  | read n => simp [Option.isSome_iff_ne_none]
  | write beats => simp

theorem State.throughCandidate_iff (x : Through) (rest : List Through) : s.throughCandidate = some (x, rest) ↔
    ∃ older younger, s.through = older ++ x :: younger ∧ rest = older ++ younger
      ∧ ¬ ((∃ n, x.transfer = .read n) ∧ s.holds[x.initiator] ≠ none)
      ∧ ∀ y ∈ older, (∃ n, y.transfer = .read n) ∧ s.holds[y.initiator] ≠ none := by
  simp only [← State.forwardable_eq_false, Bool.not_eq_false]
  constructor
  · exact takeFirst_some s.forwardable s.through x rest
  · rintro ⟨older, younger, hs, rfl, hx, hold⟩
    unfold State.throughCandidate
    rw [hs]
    exact takeFirst_append s.forwardable x younger hx older hold

end

/-- Settles O22. -/
theorem grantOfAThroughTransaction : Obligations.GrantOfAThroughTransaction := by
  refine ⟨fun s x rest => State.throughCandidate_iff x rest, fun s x rest hrun hc hrec h => ?_⟩
  rw [exec_grant_of_running hrun, State.arbitrate_of_through hc (h.imp_right State.queueFirst_eq_false.mpr),
    State.afterThrough, hrec]
  rfl

/-! ### The posting of an override -/

section
variable {s : State}

/-- With nothing else due the feeding posting takes its next step. -/
theorem State.atOnce_of_feed (hb : ∀ a ∈ s.active, a.waiting = []) (hr : s.repairDue = false) (hf : s.foldDue = false)
    (hd : s.atOnceDrain = none) (hk : s.atOnceBacklog = none) : s.atOnce = s.feed := by
  unfold State.atOnce
  rw [s.atOnceBeats_of_waiting hb, s.atOnceTake_none.mpr ⟨hr, hf⟩, hd, hk]
  rfl

/-- An event whose first two at-once steps leave a quiet state. -/
theorem State.settle_of_two_steps {s t u : State} (h : s.atOnce = some t) (h' : t.atOnce = some u) (hq : u.Quiet) :
    s.settle = (u.orderJoined s.through.length).markStalled.testHolds := by
  unfold State.settle
  rw [show Config.stepFuel = 1022 + 1 + 1 from rfl, State.drive_step _ s t h, State.drive_step _ t u h',
    State.drive_of_quiet _ u hq]

/-- The TRAILER of an override posting enters a queue with room (R18). -/
theorem State.feed_override_trailer (r : OverrideRecord) (hp : s.postings = [⟨.override r, some r.uid, [.trailer, .notice]⟩])
    (hroom : s.queueHasRoom = true) : s.feed = some { s with
      queue := s.queue ++ [s.trailerEntry r.uid (.override r)]
      postings := [⟨.override r, some r.uid, [.notice]⟩] } := by
  unfold State.feed
  rw [hp]
  dsimp only
  have step : s.takeStep ⟨.override r, some r.uid, [.trailer, .notice]⟩ .trailer
      = some (s.enterEntry (s.trailerEntry r.uid (.override r))) := if_pos hroom
  rw [step]
  rfl

/-- With the ring disabled the notice of an override posting is discarded, and the posting is complete (R160). -/
theorem State.feed_override_notice (r : OverrideRecord) (hp : s.postings = [⟨.override r, some r.uid, [.notice]⟩])
    (hring : s.ring.enabled = false) : s.feed = some { s with postings := [], testDue := true } := by
  have step : s.takeStep ⟨.override r, some r.uid, [.notice]⟩ .notice = some s := s.acceptNotice_discarded _ hring
  unfold State.feed
  rw [hp]
  dsimp only
  rw [step]
  rfl

/-- The state with another queue and other postings, a hold test due or not. -/
def State.withPostings (s : State) (queue : List Entry) (postings : List Posting) (due : Bool) : State :=
  { s with queue := queue, postings := postings, testDue := due }

/-- Other entries and postings make no drain due. -/
theorem State.Still.withPostings_drain (h : s.Still) (queue : List Entry) (postings : List Posting) (due : Bool) :
    (s.withPostings queue postings due).atOnceDrain = none :=
  State.atOnceDrain_mono (t := s.withPostings queue postings due) h.parts.2.2.1 rfl fun _ hw hq => ⟨hw, hq⟩

/-- While the ring is disabled only the feeding posting can have something to do. -/
theorem State.Still.withPostings_atOnce (h : s.Still) (hring : s.ring.enabled = false) (queue : List Entry)
    (postings : List Posting) (due : Bool) :
    (s.withPostings queue postings due).atOnce = (s.withPostings queue postings due).feed :=
  State.atOnce_of_feed h.waiting h.parts.1 h.parts.2.1 (h.withPostings_drain queue postings due)
    (State.atOnceBacklog_of_disabled _ hring)

/-- A posting of an override that meets room and a disabled ring is complete at once (R18, R129). -/
theorem State.Still.settle_postOverride (h : s.Still) (hp : s.postings = []) (hh : ∀ k : Fin 4, s.holds[k] = none)
    (hring : s.ring.enabled = false) (hroom : s.queue.length < 16) (r : OverrideRecord) :
    (s.postOverride r).settle = { s with queue := s.queue ++ [s.trailerEntry r.uid (.override r)] } := by
  have begun : s.postOverride r = s.withPostings s.queue [⟨.override r, some r.uid, [.trailer, .notice]⟩] s.testDue := by
    unfold State.postOverride State.beginPosting
    rw [hp]
    rfl
  have trailer : (s.postOverride r).atOnce
      = some (s.withPostings (s.queue ++ [s.trailerEntry r.uid (.override r)]) [⟨.override r, some r.uid, [.notice]⟩] s.testDue) := by
    rw [begun, h.withPostings_atOnce hring,
      State.feed_override_trailer (s := s.withPostings _ _ _) r rfl (State.queueHasRoom_of_lt _ hroom)]
    rfl
  have notice : (s.withPostings (s.queue ++ [s.trailerEntry r.uid (.override r)]) [⟨.override r, some r.uid, [.notice]⟩] s.testDue).atOnce
      = some (s.withPostings (s.queue ++ [s.trailerEntry r.uid (.override r)]) [] true) := by
    rw [h.withPostings_atOnce hring, State.feed_override_notice (s := s.withPostings _ _ _) r rfl hring]
    rfl
  have quiet : (s.withPostings (s.queue ++ [s.trailerEntry r.uid (.override r)]) [] true).Quiet :=
    .of_parts _ h.waiting h.parts.1 h.parts.2.1 (h.withPostings_drain _ _ _) (State.atOnceBacklog_of_disabled _ hring)
      (State.feed_of_no_posting _ rfl)
  have joined : (s.postOverride r).through.length = (s.withPostings (s.queue ++ [s.trailerEntry r.uid (.override r)]) [] true).through.length := rfl
  rw [State.settle_of_two_steps trailer notice quiet, joined, State.orderJoined_length,
    State.markStalled_of_none (s.withPostings (s.queue ++ [s.trailerEntry r.uid (.override r)]) [] true) h.waiting,
    State.testHolds_of_no_hold (s.withPostings (s.queue ++ [s.trailerEntry r.uid (.override r)]) [] true) hh, ← h.testDue, ← hp]
  rfl

end

/-- Settles O23. -/
theorem overridePostingFollowsItsPiece : Obligations.OverridePostingFollowsItsPiece := by
  intro s x rest r hrun hs hp hh hring hc hrec hlt hchoice
  have order : s.queue = [] ∨ s.queueFirst = false :=
    hchoice.imp_right fun hne => State.queueFirst_eq_false.mpr ⟨hh, hlt, hne⟩
  have granted : (s.grantThrough x rest).Still := hs.congr hs.waiting (fun _ => rfl) (fun _ _ => rfl) rfl rfl rfl rfl rfl rfl
    rfl rfl hs.testDue
  rw [exec_grant_of_running hrun, State.arbitrate_of_through hc order, State.afterThrough, hrec]
  dsimp only
  rw [granted.settle_postOverride hp hh hring (by change s.queue.length < 16; omega) r]
  rfl

/-! ### Answers from memory -/

section
variable {s : State} {k : Fin 4} {a : Addr} {rest : List Issued} {x : Active} {code : MemCode} {data : List Quad}

theorem exec_throughResponse_of_initiator {transfer : Transfer}
    (h : takeFirst Issued.isThrough s.issued = some (⟨.initiator k, a, transfer⟩, rest)) :
    exec (.throughResponse code data) s = .next ({ s with issued := rest }.routeAnswer k transfer code data) := by
  change execThroughResponse code data s = _
  unfold execThroughResponse
  rw [h]

theorem State.routeAnswer_read (n : Nat) (h : s.active.find? (fun y => y.initiator == k) = some x) :
    s.routeAnswer k (.read n) code data = s.respond k ⟨readCode x.stale code, data⟩ := by
  unfold State.routeAnswer
  rw [h]

theorem State.routeAnswer_write (beats : List Beat) (h : s.active.find? (fun y => y.initiator == k) = some x) :
    s.routeAnswer k (.write beats) code data
      = (s.modifyActive k (fun _ => x.pieceAnswered code)).answerIfDone (x.pieceAnswered code) := by
  unfold State.routeAnswer
  rw [h]

/-- A record found for an initiator is the initiator's. -/
theorem initiator_of_find {l : List Active} (h : l.find? (fun y => y.initiator == k) = some x) : x.initiator = k :=
  beq_iff_eq.mp (List.find?_some (p := fun y : Active => y.initiator == k) h)

/-- Requests of the other initiators stand when one is changed and then answered. -/
theorem filter_map_initiator (l : List Active) (f : Active → Active) (hf : ∀ y, y.initiator = k → (f y).initiator = k) :
    (l.map (fun y => if y.initiator = k then f y else y)).filter (fun y => y.initiator != k)
      = l.filter (fun y => y.initiator != k) := by
  induction l with
  | nil => rfl
  | cons y l ih =>
    rw [List.map_cons, List.filter_cons, List.filter_cons, ih]
    by_cases hy : y.initiator = k
    · rw [if_pos hy, if_neg (by simp [hf y hy]), if_neg (by simp [hy])]
    · rw [if_neg hy]

end

theorem readCode_eq (stale : Bool) (code : MemCode) :
    readCode stale code = if code = .fault then .fault else if stale = true then .stale else .okay := by
  cases code <;> cases stale <;> rfl

/-- Settles O24. -/
theorem readAnswerIsRouted : Obligations.ReadAnswerIsRouted := by
  intro s k a n rest x code data hissued hfound
  rw [exec_throughResponse_of_initiator hissued, State.routeAnswer_read (s := { s with issued := rest }) n hfound,
    readCode_eq]
  rfl

/-- Settles O25. -/
theorem writeAnswersAreCombined : Obligations.WriteAnswersAreCombined := by
  intro s k a beats rest x code data hissued hfound
  have hk : (x.pieceAnswered code).initiator = k := initiator_of_find (x := x) hfound
  rw [exec_throughResponse_of_initiator hissued, State.routeAnswer_write (s := { s with issued := rest }) beats hfound]
  refine ⟨fun hw hi => ?_, fun h => ?_⟩
  · have done : (x.pieceAnswered code).waiting = [] ∧ (x.pieceAnswered code).inFlight = 0 :=
      ⟨hw, by simp [Active.pieceAnswered, hi]⟩
    have response : (x.pieceAnswered code).writeResponse
        = ⟨if x.faulted = true ∨ code = .fault then .fault else .okay, []⟩ := by
      simp [Active.writeResponse, Active.pieceAnswered]
    rw [State.answerIfDone, if_pos done, hk, response, State.respond]
    dsimp only [State.modifyActive]
    rw [filter_map_initiator _ _ fun _ _ => hk]
  · have unanswered : ¬ ((x.pieceAnswered code).waiting = [] ∧ (x.pieceAnswered code).inFlight = 0) := by
      rintro ⟨hw, hi⟩
      change x.waiting = [] at hw
      change x.inFlight - 1 = 0 at hi
      rcases h with h | h
      · exact h hw
      · omega
    rw [State.answerIfDone, if_neg unanswered]
    rfl

/-- Settles O26. -/
theorem writeBackAnswerFillsTheFaultRecord : Obligations.WriteBackAnswerFillsTheFaultRecord := by
  refine fun s => ⟨fun kind a x rest h => ⟨?_, fun hnone => ?_, fun hsome => ?_⟩, fun h code => ?_⟩
  · change execWriteBackAnswer .okay s = _
    unfold execWriteBackAnswer
    rw [h]
  · change execWriteBackAnswer .fault s = _
    unfold execWriteBackAnswer
    rw [h]
    dsimp only
    rw [State.faultOnWrite, show State.faultRecord { s with issued := rest } = none from hnone]
    rfl
  · obtain ⟨f, hf⟩ := Option.ne_none_iff_exists'.mp hsome
    change execWriteBackAnswer .fault s = _
    unfold execWriteBackAnswer
    rw [h]
    dsimp only
    rw [State.faultOnWrite, show State.faultRecord { s with issued := rest } = some f from hf, Option.getD_some, ← hf]
    rfl
  · change execWriteBackAnswer code s = _
    unfold execWriteBackAnswer
    rw [h]

end Sys2Proof.Machine

/-! A taken write: how its beats are dealt with (R8 to R13), and the pieces that go through unchanged (O11, O12). -/

namespace Sys2Proof.Machine

/-! ### The records of taken requests -/

section
variable {l : List Active} {a : Active}

/-- No taken request of the list is of the initiator. -/
def NotAmong (k : Fin 4) (l : List Active) : Prop := ∀ y ∈ l, y.initiator ≠ k

theorem NotAmong.modify (h : NotAmong a.initiator l) (f : Active → Active) :
    (l ++ [a]).map (fun y => if y.initiator = a.initiator then f y else y) = l ++ [f a] := by
  have others : l.map (fun y => if y.initiator = a.initiator then f y else y) = l :=
    (List.map_congr_left fun y hy => if_neg (h y hy)).trans (List.map_id _)
  rw [List.map_append, others, List.map_singleton, if_pos rfl]

theorem NotAmong.answer (h : NotAmong a.initiator l) : (l ++ [a]).filter (fun y => y.initiator != a.initiator) = l := by
  rw [List.filter_append, List.filter_eq_self.mpr fun y hy => bne_iff_ne.mpr (h y hy)]
  simp

/-- The record of a write when its first `n` waiting beats have been dealt with. -/
def Active.afterBeats (a : Active) (n pieces : Nat) : Active :=
  { a with waiting := a.waiting.drop n, inFlight := a.inFlight + pieces, stalled := a.stalled && a.waiting.drop n != [] }

/-- The last of the taken requests, not yet answered when its beats have been dealt with. -/
theorem State.dealt_of_open {t : State} (hactive : t.active = l ++ [a]) (h : NotAmong a.initiator l) (n pieces : Nat)
    (ho : ¬ ((a.afterBeats n pieces).waiting = [] ∧ (a.afterBeats n pieces).inFlight = 0)) :
    t.dealt a n pieces = { t with active := l ++ [a.afterBeats n pieces] } := by
  change (t.modifyActive a.initiator (fun _ => a.afterBeats n pieces)).answerIfDone (a.afterBeats n pieces) = _
  rw [State.answerIfDone, if_neg ho, State.modifyActive, hactive, h.modify]

/-- The last of the taken requests, answered when its last beat has been dealt with. -/
theorem State.dealt_of_done {t : State} (hactive : t.active = l ++ [a]) (h : NotAmong a.initiator l) (n : Nat)
    (hw : a.waiting.drop n = []) (hi : a.inFlight = 0) : t.dealt a n 0 = { t with
      active := l, responses := t.responses.set a.initiator (some a.writeResponse) } := by
  have done : (a.afterBeats n 0).waiting = [] ∧ (a.afterBeats n 0).inFlight = 0 := ⟨hw, hi⟩
  change (t.modifyActive a.initiator (fun _ => a.afterBeats n 0)).answerIfDone (a.afterBeats n 0) = _
  rw [State.answerIfDone, if_pos done, State.modifyActive, hactive, h.modify, State.respond]
  have others := NotAmong.answer (a := a.afterBeats n 0) h
  dsimp only
  rw [others]
  rfl

end

/-! ### The beats of a write -/

section
variable (ws : Vector Window 8) (k : Fin 4)

theorem classifyBeats_beats : ∀ (a : Addr) (beats : List Beat), (classifyBeats ws k a beats).map WaitingBeat.beat = beats
  | _, [] => rfl
  | a, b :: bs => by rw [classifyBeats, List.map_cons, classifyBeats_beats]

theorem classifyBeats_cons_beats (a : Addr) (b : Beat) (bs : List Beat) :
    ((⟨a, b, classifyBeat ws k a⟩ : WaitingBeat) :: classifyBeats ws k (a + 4) bs).map WaitingBeat.beat = b :: bs :=
  classifyBeats_beats ws k a (b :: bs)

theorem classifyBeats_append : ∀ (a : Addr) (first second : List Beat), classifyBeats ws k a (first ++ second)
    = classifyBeats ws k a first ++ classifyBeats ws k (a + BitVec.ofNat 32 (4 * first.length)) second
  | a, [], second => by simp [classifyBeats]
  | a, b :: bs, second => by
    have next : a + 4 + BitVec.ofNat 32 (4 * bs.length) = a + BitVec.ofNat 32 (4 * (bs.length + 1)) := by
      rw [Nat.mul_add, Nat.mul_one, BitVec.ofNat_add]
      bv_omega
    rw [List.cons_append, classifyBeats, classifyBeats, classifyBeats_append, next]
    rfl

end

/-- The beat goes through unchanged in one piece with the others of its place (R8, R15): outside, or direct-class in the slot of
one unit without overriding it. -/
def WaitingBeat.goesThrough (b : WaitingBeat) (place : Option UnitId) : Prop :=
  match place with
  | none => b.cls = .outside
  | some u => b.overrides = false ∧ ∃ o r closing, b.cls = .slot u o r false closing

theorem WaitingBeat.goesThrough.samePiece {b c : WaitingBeat} {place : Option UnitId} (hb : b.goesThrough place)
    (hc : c.goesThrough place) : b.cls.samePiece c.cls = true := by
  cases place with
  | none => rw [show b.cls = .outside from hb, show c.cls = .outside from hc]; rfl
  | some u =>
    obtain ⟨-, o, r, closing, hb⟩ := hb
    obtain ⟨-, o', r', closing', hc⟩ := hc
    rw [hb, hc]
    exact beq_self_eq_true u

theorem WaitingBeat.goesThrough.otherPiece {b c : WaitingBeat} {x y : Option UnitId} (hb : b.goesThrough x)
    (hc : c.goesThrough y) (hxy : x ≠ y) : b.cls.samePiece c.cls = false := by
  cases x with
  | none =>
    cases y with
    | none => exact absurd rfl hxy
    | some v =>
      obtain ⟨-, o', r', closing', hc⟩ := hc
      rw [show b.cls = .outside from hb, hc]
      rfl
  | some u =>
    obtain ⟨-, o, r, closing, hb⟩ := hb
    cases y with
    | none =>
      rw [hb, show c.cls = .outside from hc]
      rfl
    | some v =>
      obtain ⟨-, o', r', closing', hc⟩ := hc
      rw [hb, hc]
      exact beq_eq_false_iff_ne.mpr fun e => hxy (congrArg some e)

theorem WaitingBeat.goesThrough.overridden {b : WaitingBeat} {place : Option UnitId} (hb : b.goesThrough place)
    {piece : List WaitingBeat} (hp : ∀ c ∈ piece, c.goesThrough place) : overridden b piece = none := by
  cases place with
  | none => unfold Sys2Proof.Machine.overridden; rw [show b.cls = .outside from hb]
  | some u =>
    obtain ⟨-, o, r, closing, hb⟩ := hb
    have hnone : piece.any WaitingBeat.overrides = false := List.any_eq_false.mpr fun c hc => by
      rw [(hp c hc).1]
      exact Bool.false_ne_true
    unfold Sys2Proof.Machine.overridden
    rw [hb]
    exact if_neg (by rw [hnone]; exact Bool.false_ne_true)

theorem takeWhile_append {α : Type} (p : α → Bool) (l m : List α) (hl : ∀ x ∈ l, p x = true) (hm : ∀ x ∈ m.head?, p x = false) :
    (l ++ m).takeWhile p = l := by
  rw [List.takeWhile_append_of_pos hl]
  cases m with
  | nil => simp
  | cons x m =>
    rw [List.takeWhile_cons_of_neg (by rw [hm x rfl]; exact Bool.false_ne_true), List.append_nil]

/-- The waiting beats of one place are the next piece, and it joins the through order. -/
theorem State.advance_through {t : State} {l : List Active} {a : Active} (hactive : t.active = l ++ [a])
    (hl : NotAmong a.initiator l) {place : Option UnitId} {b : WaitingBeat} {p rest : List WaitingBeat}
    (hw : a.waiting = b :: (p ++ rest)) (hst : a.stalled = false) (hp : ∀ c ∈ b :: p, c.goesThrough place)
    (hrest : ∀ c ∈ rest.head?, b.cls.samePiece c.cls = false) : t.advance a = some { t with
      through := t.through ++ [⟨a.initiator, b.addr, .write ((b :: p).map WaitingBeat.beat), none⟩]
      active := l ++ [{ a with waiting := rest, inFlight := a.inFlight + 1 }] } := by
  obtain ⟨hb, hp'⟩ := List.forall_mem_cons.mp hp
  have piece : nextPiece b (p ++ rest) = b :: p := by
    unfold nextPiece
    rw [takeWhile_append _ p rest (fun c hc => hb.samePiece (hp' c hc)) hrest]
  have forward : t.forwardPiece a b (p ++ rest) = { t with
      through := t.through ++ [⟨a.initiator, b.addr, .write ((b :: p).map WaitingBeat.beat), none⟩]
      active := l ++ [{ a with waiting := rest, inFlight := a.inFlight + 1 }] } := by
    have drop : a.waiting.drop (b :: p).length = rest := by
      rw [hw, ← List.cons_append]
      exact List.drop_left
    have after : a.afterBeats (b :: p).length 1 = { a with waiting := rest, inFlight := a.inFlight + 1 } := by
      unfold Active.afterBeats
      rw [drop, hst]
      rfl
    unfold State.forwardPiece
    dsimp only
    rw [piece, hb.overridden hp]
    dsimp only
    rw [State.dealt_of_open (t := t.joinThrough _) hactive hl _ _ (by simp [Active.afterBeats]), after]
    rfl
  unfold State.advance
  rw [hw]
  dsimp only
  cases place with
  | none =>
    rw [show b.cls = .outside from hb]
    dsimp only
    rw [forward]
  | some u =>
    obtain ⟨-, o, r, closing, hc⟩ := hb
    rw [hc]
    dsimp only
    rw [forward]

/-! ### What a take brings about -/

/-- A write as it is taken (R4). -/
def Active.taken (k : Fin 4) (waiting : List WaitingBeat) : Active := ⟨k, waiting, 0, false, false, false⟩

section
variable {s : State} {k : Fin 4} {a : Addr}

theorem State.notAmong_of_free (h : s.busyInitiator k = false) : NotAmong k s.active := by
  intro y hy he
  have := List.any_eq_false.mp h y hy
  rw [he] at this
  simp at this

/-- Of the taken requests only the last can go on when no beat of the others waits. -/
theorem State.atOnceBeats_last {t : State} {l : List Active} {x : Active} (hactive : t.active = l ++ [x])
    (hl : ∀ y ∈ l, y.waiting = []) : t.atOnceBeats = t.advance x := by
  unfold State.atOnceBeats
  rw [hactive, List.findSome?_append, List.findSome?_eq_none_iff.mpr fun y hy => t.advance_nil y (hl y hy)]
  simp

theorem State.atOnce_of_beats {t v : State} (h : t.atOnceBeats = some v) : t.atOnce = some v := by
  unfold State.atOnce
  rw [h]
  rfl

/-- Through-transactions of one initiator that join at one event keep their order. -/
theorem insertByRank_same (rank : Through → Nat) (t : Through) : ∀ l : List Through, (∀ u ∈ l, rank u = rank t) →
    insertByRank rank t l = l ++ [t]
  | [], _ => rfl
  | u :: l, h => by
    obtain ⟨hu, hl⟩ := List.forall_mem_cons.mp h
    rw [insertByRank, if_neg (by rw [hu]; exact Nat.lt_irrefl _), insertByRank_same rank t l hl]
    rfl

theorem foldl_insertByRank_same (rank : Through → Nat) (n : Nat) : ∀ joined acc : List Through,
    (∀ u ∈ acc, rank u = n) → (∀ u ∈ joined, rank u = n) →
    joined.foldl (fun acc t => insertByRank rank t acc) acc = acc ++ joined
  | [], acc, _, _ => (List.append_nil acc).symm
  | t :: joined, acc, hacc, hj => by
    obtain ⟨ht, hj⟩ := List.forall_mem_cons.mp hj
    rw [List.foldl_cons, insertByRank_same rank t acc fun u hu => (hacc u hu).trans ht.symm,
      foldl_insertByRank_same rank n joined (acc ++ [t]) ?_ hj, List.append_assoc]
    · rfl
    · intro u hu
      rcases List.mem_append.mp hu with hu | hu
      · exact hacc u hu
      · rw [List.mem_singleton.mp hu, ht]

theorem State.orderJoined_of_one {t : State} {older joined : List Through} (h : t.through = older ++ joined)
    (hk : ∀ x ∈ joined, x.initiator = k) : t.orderJoined older.length = t := by
  have rank : ∀ x ∈ joined, t.takeRank x = t.active.findIdx (fun y => y.initiator == k) := fun x hx => by
    rw [State.takeRank, hk x hx]
  have drop : t.through.drop older.length = joined := by rw [h]; exact List.drop_left
  have take : t.through.take older.length = older := by rw [h]; exact List.take_left
  unfold State.orderJoined
  rw [drop, take, foldl_insertByRank_same _ _ joined [] nofun rank, List.nil_append, ← h]

/-- More requests without waiting beats and more through-transactions leave a still state still. -/
theorem State.Still.withRequests (h : s.Still) (through : List Through) {active : List Active}
    (responses : Vector (Option Response) 4) (ha : ∀ y ∈ active, y.waiting = []) :
    { s with through := through, active := active, responses := responses }.Still :=
  h.congr ha (fun _ => rfl) (fun _ _ => rfl) rfl rfl rfl rfl rfl rfl rfl rfl h.testDue

/-- An event that ends in a still state after its first at-once step. -/
theorem State.Still.settle_step {t v : State} (h : v.Still) (hstep : t.atOnce = some v) {joined : List Through}
    (hj : v.through = t.through ++ joined) (hk : ∀ x ∈ joined, x.initiator = k) : t.settle = v := by
  rw [State.settle_of_step t v hstep h.quiet, State.orderJoined_of_one hj hk, State.markStalled_of_none v h.waiting,
    State.testHolds_of_not_due v h.testDue]

/-- An event that ends in a still state after two at-once steps. -/
theorem State.Still.settle_two_steps {t v w : State} (h : w.Still) (hstep : t.atOnce = some v) (hstep' : v.atOnce = some w)
    {joined : List Through} (hj : w.through = t.through ++ joined) (hk : ∀ x ∈ joined, x.initiator = k) : t.settle = w := by
  rw [State.settle_of_two_steps hstep hstep' h.quiet, State.orderJoined_of_one hj hk, State.markStalled_of_none w h.waiting,
    State.testHolds_of_not_due w h.testDue]

theorem waiting_append {l : List Active} (hl : ∀ y ∈ l, y.waiting = []) {x : Active} (hx : x.waiting = []) :
    ∀ y ∈ l ++ [x], y.waiting = [] := by
  intro y hy
  rcases List.mem_append.mp hy with hy | hy
  · exact hl y hy
  · rw [List.mem_singleton.mp hy, hx]

/-- A write whose beats have one place goes through as one piece. -/
theorem State.Still.take_onePiece (h : s.Still) (hfree : s.busyInitiator k = false) {beats : List Beat} (hne : beats ≠ [])
    {place : Option UnitId} (hp : ∀ b ∈ classifyBeats s.windows k a beats, b.goesThrough place) :
    (s.takeWrite k a beats).settle = { s with
      through := s.through ++ [⟨k, a, .write beats, none⟩]
      active := s.active ++ [⟨k, [], 1, false, false, false⟩] } := by
  cases beats with
  | nil => exact absurd rfl hne
  | cons b bs =>
    have among := State.notAmong_of_free hfree
    have taken : (s.takeWrite k a (b :: bs)).active
        = s.active ++ [Active.taken k (classifyBeats s.windows k a (b :: bs))] := rfl
    have step := State.advance_through taken among (place := place) (rest := [])
      (by rw [List.append_nil]; rfl) rfl hp (by simp)
    rw [← State.atOnceBeats_last taken h.waiting] at step
    refine State.Still.settle_step (k := k) (joined := [⟨k, a, .write (b :: bs), none⟩])
      (h.withRequests _ s.responses (waiting_append h.waiting rfl)) ?_ rfl (by simp)
    rw [State.atOnce_of_beats step, classifyBeats_cons_beats]
    rfl

/-- A write whose first beats have one place and the others another goes through as two pieces. -/
theorem State.Still.take_twoPieces (h : s.Still) (hfree : s.busyInitiator k = false) {first second : List Beat}
    (hfirst : first ≠ []) (hsecond : second ≠ []) {x y : Option UnitId} (hxy : x ≠ y)
    (hx : ∀ b ∈ classifyBeats s.windows k a first, b.goesThrough x)
    (hy : ∀ b ∈ classifyBeats s.windows k (a + BitVec.ofNat 32 (4 * first.length)) second, b.goesThrough y) :
    (s.takeWrite k a (first ++ second)).settle = { s with
      through := s.through ++ [⟨k, a, .write first, none⟩,
        ⟨k, a + BitVec.ofNat 32 (4 * first.length), .write second, none⟩]
      active := s.active ++ [⟨k, [], 2, false, false, false⟩] } := by
  have among := State.notAmong_of_free hfree
  obtain ⟨b, bs, rfl⟩ := List.exists_cons_of_ne_nil hfirst
  obtain ⟨c, cs, rfl⟩ := List.exists_cons_of_ne_nil hsecond
  have taken : (s.takeWrite k a (b :: bs ++ c :: cs)).active = s.active ++ [Active.taken k
      (⟨a, b, classifyBeat s.windows k a⟩ :: (classifyBeats s.windows k (a + 4) bs
        ++ classifyBeats s.windows k (a + BitVec.ofNat 32 (4 * (b :: bs).length)) (c :: cs)))] := by
    unfold State.takeWrite
    rw [classifyBeats_append]
    rfl
  have one := State.advance_through taken among rfl rfl hx fun d hd => by
    cases hd
    exact (hx _ List.mem_cons_self).otherPiece (hy _ List.mem_cons_self) hxy
  rw [← State.atOnceBeats_last taken h.waiting] at one
  have left := State.advance_through (l := s.active) (a := Active.mk k
      (classifyBeats s.windows k (a + BitVec.ofNat 32 (4 * (b :: bs).length)) (c :: cs)) 1 false false false)
    (t := { s with
      through := s.through ++ [⟨k, a, .write (b :: bs), none⟩]
      active := s.active ++ [_] }) rfl among (rest := []) (by rw [List.append_nil]; rfl) rfl hy (by simp)
  rw [← State.atOnceBeats_last (l := s.active) rfl h.waiting] at left
  refine State.Still.settle_two_steps (k := k) (joined := [⟨k, a, .write (b :: bs), none⟩,
      ⟨k, a + BitVec.ofNat 32 (4 * (b :: bs).length), .write (c :: cs), none⟩])
    (h.withRequests _ s.responses (waiting_append h.waiting rfl)) (State.atOnce_of_beats one) ?_ rfl (by simp)
  rw [classifyBeats_cons_beats]
  refine (State.atOnce_of_beats left).trans ?_
  rw [classifyBeats_cons_beats]
  simp

end

end Sys2Proof.Machine

/-! Which beats lie in a window (R5 to R7), writes that go through whole, and capture beats that are dealt with at the take
(R15, R42 to R54). -/

namespace Sys2Proof.Machine

/-! ### Windows and beats -/

theorem Profile.covers_iff (p : Profile) (a : Addr) : p.covers a = true ↔
    p.base.toNat ≤ a.toNat ∧ a.toNat < p.base.toNat + p.unitCount * (p.dataSize + 8) := by
  rw [Profile.covers, Bool.and_eq_true, decide_eq_true_eq, decide_eq_true_eq]
  rfl

section
variable (ws : Vector Window 8) (k : Fin 4) (a : Addr)

theorem classifyBeat_outside_iff :
    classifyBeat ws k a = .outside ↔ ∀ w : Fin 8, ¬ (ws[w].state ≠ .off ∧ ws[w].profile.covers a = true) := by
  have nowhere : (List.finRange 8).find? (fun w : Fin 8 => ws[w].state != .off && ws[w].profile.covers a) = none
      ↔ ∀ w : Fin 8, ¬ (ws[w].state ≠ .off ∧ ws[w].profile.covers a = true) := by
    simp
  rw [← nowhere]
  unfold classifyBeat
  split
  · next h => exact iff_of_true rfl h
  · next w h => exact iff_of_false nofun (by rw [h]; nofun)

/-- A beat that one window alone covers lies in that window's slots. -/
theorem classifyBeat_of_only {w : Fin 8} (hw : ws[w].state ≠ .off ∧ ws[w].profile.covers a = true)
    (honly : ∀ v, v ≠ w → ¬ (ws[v].state ≠ .off ∧ ws[v].profile.covers a = true)) :
    classifyBeat ws k a = .slot ⟨w, (a.toNat - ws[w].profile.base.toNat) / ws[w].profile.stride⟩
      ((a.toNat - ws[w].profile.base.toNat) % ws[w].profile.stride)
      (regionOf ws[w].profile.dataSize ((a.toNat - ws[w].profile.base.toNat) % ws[w].profile.stride))
      (ws[w].profile.captures k) (ws[w].state == .closing) := by
  have found : (List.finRange 8).find? (fun w : Fin 8 => ws[w].state != .off && ws[w].profile.covers a) = some w := by
    refine (find?_finRange_iff _ w).mpr ⟨by simpa using hw, fun v hv => ?_⟩
    have := honly v (Fin.ne_of_lt hv)
    simp only [Bool.and_eq_false_imp, bne_iff_ne]
    exact fun hoff => Bool.eq_false_iff.mpr fun hcov => this ⟨hoff, hcov⟩
  unfold classifyBeat
  rw [found]

end

/-- Settles O11. -/
theorem outsideWriteIsForwardedWhole : Obligations.OutsideWriteIsForwardedWhole := by
  refine ⟨fun k a beats place s => ?_, fun k a first second x y s => ?_, fun k a s => ?_⟩
  · intro lies hs ht hlies
    have hne : beats ≠ [] := fun e => by
      have := ht.wf
      rw [e] at this
      exact absurd this (by simp [Request.wf, Transfer.count])
    rw [ht.exec_write, hs.take_onePiece ht.free hne (place := place) fun b hb => by
      have := hlies b hb
      cases place <;> exact this]
  · intro next lies hs ht hfirst hsecond hxy hx hy
    rw [ht.exec_write, hs.take_twoPieces ht.free hfirst hsecond hxy (fun b hb => by
      have := hx b hb
      cases x <;> exact this) fun b hb => by
      have := hy b hb
      cases y <;> exact this]
  · intro covers
    have covered : ∀ w : Fin 8, covers w ↔ s.windows[w].state ≠ .off ∧ s.windows[w].profile.covers a = true := fun w =>
      and_congr_right fun _ => ((s.windows[w].profile).covers_iff a).symm
    refine ⟨?_, fun w hw honly => ?_⟩
    · simp only [covered]
      exact classifyBeat_outside_iff s.windows k a
    · have only := classifyBeat_of_only s.windows k a ((covered w).mp hw) fun v hv => (covered v).not.mp (honly v hv)
      obtain ⟨-, hle, -⟩ := hw
      have stride : 0 < (s.profile w).stride := Nat.add_pos_right _ (by decide)
      refine ⟨_, _, ?_, Nat.mod_lt _ stride, only⟩
      rw [Nat.add_assoc, show (s.profile w).dataSize + 8 = s.windows[w].profile.stride from rfl, Nat.div_add_mod']
      exact (Nat.add_sub_of_le hle).symm

/-! ### Beats dealt with at the take -/

section
variable {s : State} {k : Fin 4} {a : Addr} {b : Beat} {u : UnitId} {o : Nat} {r : Region} {closing : Bool}

/-- The write of initiator `k` answered OKAY. -/
def State.answered (s : State) (k : Fin 4) : State := { s with responses := s.responses.set k (some ⟨.okay, []⟩) }

theorem State.Still.answered (h : s.Still) (k : Fin 4) : (s.answered k).Still :=
  h.withRequests s.through (s.answered k).responses h.waiting

/-- What a lane does with a beat does not rest on the taken requests. -/
theorem State.laneBeat_withActive (s : State) (l : List Active) (k : Fin 4) (u : UnitId) (o : Nat) (closing : Bool) (b : Beat) :
    { s with active := l }.laneBeat k u o closing b = (s.laneBeat k u o closing b).map (fun v => { v with active := l }) := by
  have tear : { s with active := l }.tear k = { s.tear k with active := l } := by
    unfold State.tear
    cases hf : s.lanes[k].filling <;> rfl
  have start : ∀ (t : State) (q : Quad), { t with active := l }.startPass k u q
      = (t.startPass k u q).map (fun v => { v with active := l }) := fun t q => by
    unfold State.startPass
    cases hb : t.lanes[k].freeBuffer <;> rfl
  have append : ∀ f : Filling, { s with active := l }.appendBeat k f o b.data = { s.appendBeat k f o b.data with active := l } :=
    fun f => by
      unfold State.appendBeat
      dsimp only
      rw [show State.profile { s with active := l } f.uid.window = s.profile f.uid.window from rfl]
      split <;> rfl
  have late : { s with active := l }.continueLate k u o b.enables.all = { s.continueLate k u o b.enables.all with active := l } := by
    unfold State.continueLate
    rw [show State.profile { s with active := l } u.window = s.profile u.window from rfl]
    split <;> rfl
  unfold State.laneBeat
  by_cases ho : o = 0
  · rw [if_pos ho, if_pos ho, tear]
    by_cases hcl : closing = true
    · rw [if_pos hcl, if_pos hcl]; rfl
    · rw [if_neg hcl, if_neg hcl]
      by_cases he : b.enables.all = true
      · rw [if_pos he, if_pos he]; exact start _ _
      · rw [if_neg he, if_neg he]; rfl
  · rw [if_neg ho, if_neg ho]
    dsimp only
    cases s.lanes[k].expects u o with
    | some f =>
      dsimp only
      rw [append, tear]
      split <;> rfl
    | none =>
      dsimp only
      rw [late]
      split <;> rfl

/-- What is done with a waiting capture beat of a write that has not stalled (R15, R42). -/
theorem State.advance_capture (t : State) {x : Active} {wb : WaitingBeat} {rest : List WaitingBeat}
    (hw : x.waiting = wb :: rest) (hc : wb.cls = .slot u o r true closing) (hst : x.stalled = false) :
    t.advance x = if r = .verdict then some (t.dealt x 1 0)
      else (t.laneBeat x.initiator u o closing wb.beat).map (fun v => v.dealt x 1 0) := by
  unfold State.advance
  rw [hw]
  dsimp only
  rw [hc]
  dsimp only
  rw [if_neg (by simp [State.meetsAbandon, hst])]

/-- The at-once step of a one-beat capture write deals with its beat. -/
theorem State.Still.atOnceBeats_capture (h : s.Still) (hc : classifyBeat s.windows k a = .slot u o r true closing) :
    (s.takeWrite k a [b]).atOnceBeats
      = if r = .verdict then some ((s.takeWrite k a [b]).dealt (Active.taken k [⟨a, b, .slot u o r true closing⟩]) 1 0)
      else ((s.takeWrite k a [b]).laneBeat k u o closing b).map
        (fun v => v.dealt (Active.taken k [⟨a, b, .slot u o r true closing⟩]) 1 0) := by
  rw [State.atOnceBeats_last (t := s.takeWrite k a [b]) (l := s.active)
    (x := Active.taken k [⟨a, b, .slot u o r true closing⟩]) (by rw [← hc]; rfl) h.waiting]
  exact State.advance_capture (x := Active.taken k [⟨a, b, .slot u o r true closing⟩]) (rest := []) _ rfl rfl rfl

/-- A capture beat of a one-beat write is dealt with by the lane, and the write is answered. -/
theorem State.Still.atOnce_capture (h : s.Still) (hfree : s.busyInitiator k = false)
    (hc : classifyBeat s.windows k a = .slot u o r true closing) (hr : r ≠ .verdict) (v : State)
    (hv : s.laneBeat k u o closing b = some v) (hactive : v.active = s.active) :
    (s.takeWrite k a [b]).atOnce = some (v.answered k) := by
  have lane : (s.takeWrite k a [b]).laneBeat k u o closing b
      = some { v with active := s.active ++ [Active.taken k [⟨a, b, .slot u o r true closing⟩]] } := by
    have := State.laneBeat_withActive s (s.active ++ [Active.taken k [⟨a, b, .slot u o r true closing⟩]]) k u o closing b
    rw [hv] at this
    rw [State.takeWrite, classifyBeats, hc]
    exact this
  have dealt := State.dealt_of_done (t := { v with active := s.active ++ [Active.taken k [⟨a, b, .slot u o r true closing⟩]] })
    rfl (State.notAmong_of_free hfree) 1 rfl rfl
  refine State.atOnce_of_beats ?_
  rw [h.atOnceBeats_capture hc, if_neg hr, lane, Option.map_some, dealt, ← hactive]
  rfl

/-- A one-beat capture write after which nothing is due. -/
theorem State.Still.exec_capture (h : s.Still) (ht : s.Takes (oneBeat k a b))
    (hc : classifyBeat s.windows k a = .slot u o r true closing) (hr : r ≠ .verdict) {v : State}
    (hv : s.laneBeat k u o closing b = some v) (hactive : v.active = s.active) (hthrough : v.through = s.through)
    (hstill : v.Still) : exec (.requestTake (oneBeat k a b)) s = .next (v.answered k) := by
  have settled := (hstill.answered k).settle_step (k := k) (h.atOnce_capture ht.free hc hr v hv hactive)
    (joined := []) (by rw [List.append_nil]; exact hthrough) nofun
  exact (State.Takes.exec_write ht).trans (congrArg _ settled)

/-- A capture-class beat on a verdict word is discarded, and the write is answered. -/
theorem State.Still.exec_verdict (h : s.Still) (ht : s.Takes (oneBeat k a b))
    (hc : classifyBeat s.windows k a = .slot u o .verdict true closing) :
    exec (.requestTake (oneBeat k a b)) s = .next (s.answered k) := by
  have dealt := State.dealt_of_done (t := s.takeWrite k a [b]) (l := s.active)
    (a := Active.taken k [⟨a, b, .slot u o .verdict true closing⟩]) (by rw [← hc]; rfl) (State.notAmong_of_free ht.free) 1 rfl rfl
  have step : (s.takeWrite k a [b]).atOnce = some (s.answered k) := by
    refine State.atOnce_of_beats ?_
    rw [h.atOnceBeats_capture hc, if_pos rfl, dealt]
    rfl
  have settled := (h.answered k).settle_step (k := k) step (joined := []) (List.append_nil _).symm nofun
  exact (State.Takes.exec_write ht).trans (congrArg _ settled)

end

/-- Settles O12. -/
theorem verdictWordBeatIsDiscarded : Obligations.VerdictWordBeatIsDiscarded :=
  fun _ _ _ _ _ _ _ hs ht hc => hs.exec_verdict ht hc

end Sys2Proof.Machine

/-! What a lane does with a capture beat (R42 to R54): pass starts, appended beats, orphans, withheld beats, late passes. -/

namespace Sys2Proof.Machine

section
variable {s : State} {k : Fin 4} {a : Addr} {b : Beat} {u : UnitId} {o : Nat} {r : Region} {closing : Bool} {f : Filling}

/-- More passes filling, and a change of counters, flags and buffers, leave a still state still. -/
theorem State.Still.of_fills {t : State} (h : s.Still) (ha : t.active = s.active)
    (hw : ∀ w : Fin 8, t.windows[w].state = s.windows[w].state)
    (hl : ∀ (j : Fin 4) (w : Fin 8), s.lanes[j].fills w = true → t.lanes[j].fills w = true)
    (hq : t.foldQueue = s.foldQueue) (hf : t.fold = s.fold) (hc : t.contexts = s.contexts) (hp : t.postings = s.postings)
    (hwq : t.queue = s.queue) (hr : t.ring = s.ring) (hrr : t.repair = s.repair) (hrq : t.repairQueue = s.repairQueue)
    (ht : t.testDue = s.testDue) : t.Still := by
  refine h.of_drain (by rw [ha]; exact h.waiting) (State.atOnceDrain_mono h.parts.2.2.1 hc fun w hcl hquiet => ?_)
    (by rw [State.foldDue, hf, hq]; exact h.parts.2.1) hrr hrq hp hwq hr (ht.trans h.testDue)
  refine ⟨(hw w) ▸ hcl, State.passQuiet_mono hquiet (fun j => hl j w) (fun p hp => hq ▸ hp) fun hfold => ?_⟩
  rw [State.foldsIn, hf]
  exact hfold

theorem State.setLane_fills {x : Lane} (hx : ∀ w, s.lanes[k].fills w = true → x.fills w = true) (j : Fin 4) (w : Fin 8)
    (h : s.lanes[j].fills w = true) : (s.setLane k x).lanes[j].fills w = true := by
  rw [State.setLane_get]
  split
  · next hj =>
    subst hj
    exact hx w h
  · exact h

theorem Lane.fills_of_none {l : Lane} (h : l.filling = none) (w : Fin 8) : ¬ l.fills w = true := by
  rw [Lane.fills, h]
  exact Bool.false_ne_true

theorem State.bump_state (w : Fin 8) (c : Counter) (v : Fin 8) : (s.bump w c).windows[v].state = s.windows[v].state := by
  unfold State.bump
  rw [State.setWindow_get]
  split
  · next h => subst h; rfl
  · rfl

theorem State.Still.setLane (h : s.Still) {x : Lane} (hx : ∀ w, s.lanes[k].fills w = true → x.fills w = true) :
    (s.setLane k x).Still :=
  h.of_fills rfl (fun _ => rfl) (State.setLane_fills hx) rfl rfl rfl rfl rfl rfl rfl rfl rfl

theorem State.Still.bump (h : s.Still) (w : Fin 8) (c : Counter) : (s.bump w c).Still :=
  h.of_fills rfl (State.bump_state w c) (fun _ _ hf => hf) rfl rfl rfl rfl rfl rfl rfl rfl rfl

theorem State.Still.setFlag (h : s.Still) (x : Flag) : (s.setFlag x).Still :=
  h.of_fills rfl (fun _ => rfl) (fun _ _ hf => hf) rfl rfl rfl rfl rfl rfl rfl rfl rfl

theorem State.Still.orphan (h : s.Still) (w : Fin 8) : (s.orphan w).Still := (h.bump w .passesTorn).setFlag .torn

theorem State.Still.endLateRun (h : s.Still) (k : Fin 4) : (s.endLateRun k).Still := h.setLane fun _ hf => hf

theorem State.Still.beginLate (h : s.Still) (k : Fin 4) (u : UnitId) : (s.beginLate k u).Still :=
  ((h.setLane (k := k) (x := { s.lanes[k] with lateRun := some ⟨u, 4⟩ }) fun _ hf => hf).bump u.window .passesLate).setFlag .late

/-- The window of a torn pass stays as it is: not CLOSING, or with another pass under way. -/
def State.staysAfterTear (s : State) (k : Fin 4) (w : Fin 8) : Prop :=
  s.windows[w].state ≠ .closing ∨ (∃ j : Fin 4, j ≠ k ∧ s.lanes[j].fills w = true)
    ∨ (∃ p ∈ s.foldQueue, p.uid.window = w) ∨ s.foldsIn w = true

theorem State.Still.tear_of_stays (h : s.Still) (hf : s.lanes[k].filling = some f) (hstays : s.staysAfterTear k f.uid.window) :
    (s.tear k).Still := by
  refine h.tear hf fun hclosing => ?_
  rw [Bool.eq_false_iff, ne_eq, State.tear_passQuiet hf]
  rintro ⟨hl, hq, hfold⟩
  rcases hstays with hopen | ⟨j, hj, hfills⟩ | ⟨p, hp, hpw⟩ | hfolds
  · exact hopen hclosing
  · rw [hl j hj] at hfills; cases hfills
  · exact hq p hp hpw
  · rw [hfold] at hfolds; cases hfolds

theorem State.tear_lane (hf : s.lanes[k].filling = some f) :
    (s.tear k).lanes[k] = { s.lanes[k].setBuffer f.buffer .free with filling := none, timer := none } := by
  rw [s.tear_of_filling k f hf]
  exact (State.setLane_get s k k _).trans (if_pos rfl)

/-! ### Pass starts -/

theorem Lane.freeBuffer_zero {l : Lane} (h : l.buffer0 = .free) : l.freeBuffer = some 0 := if_pos h

theorem Lane.freeBuffer_one {l : Lane} (h : l.buffer0 ≠ .free) (h' : l.buffer1 = .free) : l.freeBuffer = some 1 :=
  (if_neg h).trans (if_pos h')

theorem State.startPass_of_free {i : Fin 2} (h : s.lanes[k].freeBuffer = some i) (q : Quad) : s.startPass k u q
    = some (s.setLane k { s.lanes[k].setBuffer i (.filling q.bytes) with
      filling := some ⟨u, 4, i⟩, lateRun := none, timer := idleStart (s.profile u.window).idleLimit }) := by
  unfold State.startPass
  rw [h]

theorem State.Still.startPass (h : s.Still) (hnone : s.lanes[k].filling = none) {i : Fin 2} (q : Quad) (t : Option Nat) :
    (s.setLane k { s.lanes[k].setBuffer i (.filling q.bytes) with filling := some ⟨u, 4, i⟩, lateRun := none, timer := t }).Still :=
  h.setLane fun w hf => absurd hf (Lane.fills_of_none hnone w)

theorem State.laneBeat_start (ho : o = 0) (hopen : closing = false) (he : b.enables.all = true) :
    s.laneBeat k u o closing b = (s.tear k).startPass k u b.data := by
  unfold State.laneBeat
  rw [if_pos ho, if_neg (by rw [hopen]; exact Bool.false_ne_true), if_pos he]

/-- A pass start in a lane without a filling pass. -/
theorem State.Still.exec_start (h : s.Still) (ht : s.Takes (oneBeat k a b))
    (hc : classifyBeat s.windows k a = .slot u 0 .data true false) (he : b.enables.all = true)
    (hnone : s.lanes[k].filling = none) {i : Fin 2} (hi : s.lanes[k].freeBuffer = some i) :
    exec (.requestTake (oneBeat k a b)) s = .next ((s.setLane k { s.lanes[k].setBuffer i (.filling b.data.bytes) with
      filling := some ⟨u, 4, i⟩, lateRun := none, timer := idleStart (s.profile u.window).idleLimit }).answered k) := by
  refine h.exec_capture ht hc nofun ?_ rfl rfl (h.startPass hnone b.data _)
  rw [State.laneBeat_start rfl rfl he, s.tear_of_none k hnone, State.startPass_of_free hi]

/-- A pass start that tears the lane's filling pass first. -/
theorem State.Still.exec_tornStart (h : s.Still) (ht : s.Takes (oneBeat k a b))
    (hc : classifyBeat s.windows k a = .slot u 0 .data true false) (he : b.enables.all = true)
    (hf : s.lanes[k].filling = some f) (hstays : s.staysAfterTear k f.uid.window) {i : Fin 2}
    (hi : (s.tear k).lanes[k].freeBuffer = some i) : exec (.requestTake (oneBeat k a b)) s
      = .next (((s.tear k).setLane k { (s.tear k).lanes[k].setBuffer i (.filling b.data.bytes) with
        filling := some ⟨u, 4, i⟩, lateRun := none, timer := idleStart ((s.tear k).profile u.window).idleLimit }).answered k) := by
  have hnone : (s.tear k).lanes[k].filling = none := by rw [State.tear_lane hf]
  have parts := s.tear_of_filling k f hf
  refine h.exec_capture ht hc nofun ?_ (by rw [parts]; rfl) (by rw [parts]; rfl)
    ((h.tear_of_stays hf hstays).startPass hnone b.data _)
  rw [State.laneBeat_start rfl rfl he, State.startPass_of_free hi]

end

/-- Settles O13. -/
theorem passStartTakesAFreeBuffer : Obligations.PassStartTakesAFreeBuffer := by
  intro k a b u s hs ht hc he
  refine ⟨fun hnone h0 => ?_, fun hnone h0 h1 => ?_, fun f hf hstays => ?_⟩
  · rw [hs.exec_start ht hc he hnone (Lane.freeBuffer_zero h0)]
    rfl
  · rw [hs.exec_start ht hc he hnone (Lane.freeBuffer_one h0 h1)]
    rfl
  · have lane := State.tear_lane hf
    have profile : ∀ w, (s.tear k).profile w = s.profile w := (State.tear_untouched s k).profile
    have started : ∀ i : Fin 2, (s.tear k).lanes[k].freeBuffer = some i →
        exec (.requestTake (oneBeat k a b)) s = .next { s with
          lanes := s.lanes.set k { (s.lanes[k].setBuffer f.buffer .free).setBuffer i (.filling b.data.bytes) with
            filling := some ⟨u, 4, i⟩, lateRun := none, timer := idleStart (s.profile u.window).idleLimit }
          windows := s.windows.set f.uid.window { s.windows[f.uid.window] with
            counters := { s.windows[f.uid.window].counters with
              passesTorn := satInc s.windows[f.uid.window].counters.passesTorn } }
          flags := s.flags ||| 0x004
          responses := s.responses.set k (some ⟨.okay, []⟩) } := by
      intro i hi
      rw [hs.exec_tornStart ht hc he hf hstays hi, lane, profile, s.tear_of_filling k f hf]
      unfold State.answered State.setLane
      dsimp only
      rw [Vector.set_set]
      fin_cases i <;> rfl
    by_cases hb : f.buffer = 0
    · rw [started 0 (Lane.freeBuffer_zero (by rw [lane]; simp [Lane.setBuffer, hb])), if_pos hb]
      simp [Lane.setBuffer, hb, idleStart]
    · rw [if_neg hb]
      by_cases h0 : s.lanes[k].buffer0 = .free
      · rw [started 0 (Lane.freeBuffer_zero (by rw [lane]; simpa [Lane.setBuffer, hb] using h0)), if_pos h0]
        simp [Lane.setBuffer, hb, idleStart]
      · rw [started 1 (Lane.freeBuffer_one (by rw [lane]; simpa [Lane.setBuffer, hb] using h0)
          (by rw [lane]; simp [Lane.setBuffer, hb])), if_neg h0]
        simp [Lane.setBuffer, hb, idleStart]

end Sys2Proof.Machine

/-! Capture beats inside a pass, orphans, withheld beats and late passes (R44 to R48, R52 to R54). -/

namespace Sys2Proof.Machine

section
variable {s : State} {k : Fin 4} {a : Addr} {b : Beat} {u : UnitId} {o : Nat} {r : Region} {closing : Bool} {f : Filling}

/-! ### Cases of R42 -/

theorem State.laneBeat_late (ho : o = 0) (hcl : closing = true) :
    s.laneBeat k u o closing b = some (((s.tear k).endLateRun k).beginLate k u) := by
  unfold State.laneBeat
  rw [if_pos ho, if_pos hcl]

theorem State.laneBeat_orphanStart (ho : o = 0) (hcl : closing = false) (he : b.enables.all = false) :
    s.laneBeat k u o closing b = some (((s.tear k).endLateRun k).orphan u.window) := by
  unfold State.laneBeat
  rw [if_pos ho, if_neg (by rw [hcl]; exact Bool.false_ne_true), if_neg (by rw [he]; exact Bool.false_ne_true)]

theorem Lane.expects_of_filling {l : Lane} (h : l.filling = some f) : l.expects f.uid f.expected = some f := by
  unfold Lane.expects
  rw [h]
  exact if_pos ⟨rfl, rfl⟩

theorem Lane.expects_none {l : Lane} (h : ∀ f, l.filling = some f → ¬ (f.uid = u ∧ f.expected = o)) : l.expects u o = none := by
  unfold Lane.expects
  cases hf : l.filling with
  | none => rfl
  | some f => exact if_neg (h f hf)

theorem State.laneBeat_expected (ho : o ≠ 0) (hx : s.lanes[k].expects u o = some f) : s.laneBeat k u o closing b
    = some (if b.enables.all = true then s.appendBeat k f o b.data else s.tear k) := by
  unfold State.laneBeat
  rw [if_neg ho, hx]
  dsimp only
  split <;> rfl

theorem State.laneBeat_unexpected (ho : o ≠ 0) (hx : s.lanes[k].expects u o = none) : s.laneBeat k u o closing b
    = some (if s.lanes[k].lateRun = some ⟨u, o⟩ then s.continueLate k u o b.enables.all else s.orphan u.window) := by
  unfold State.laneBeat
  rw [if_neg ho, hx]
  dsimp only
  split <;> rfl

/-! ### Appended beats -/

theorem State.appendBeat_of_inside {q : Quad} (h : o ≠ (s.profile f.uid.window).dataSize) : s.appendBeat k f o q
    = s.setLane k { s.lanes[k].setBuffer f.buffer (.filling ((s.lanes[k].buffer f.buffer).content ++ q.bytes)) with
      filling := some { f with expected := o + 4 }, timer := idleStart (s.profile f.uid.window).idleLimit } :=
  if_neg h

/-- The state with a pass of the lane staged (R45). -/
def State.stagePass (s : State) (k : Fin 4) (f : Filling) (content : List Byte) : State :=
  { s with
    lanes := s.lanes.set k { s.lanes[k].setBuffer f.buffer (.staged content) with filling := none, timer := none }
    foldQueue := s.foldQueue ++ [⟨k, f.buffer, f.uid⟩] }

theorem State.appendBeat_of_last {q : Quad} (h : o = (s.profile f.uid.window).dataSize) : s.appendBeat k f o q
    = s.stagePass k f ((s.lanes[k].buffer f.buffer).content ++ q.bytes) :=
  if_pos h

theorem State.stagePass_fills (content : List Byte) (j : Fin 4) (w : Fin 8) :
    (s.stagePass k f content).lanes[j].fills w = if j = k then false else s.lanes[j].fills w := by
  change (s.setLane k _).lanes[j].fills w = _
  rw [State.setLane_get]
  split <;> rfl

/-- A pass that is staged keeps its window from being pass-quiet while it waits or folds. -/
theorem State.passQuiet_of_staged (hf : s.lanes[k].filling = some f) {t : State} {w : Fin 8} (hquiet : t.passQuiet w = true)
    (hl : ∀ j : Fin 4, j ≠ k → t.lanes[j].fills w = s.lanes[j].fills w) (hq : ∀ p ∈ s.foldQueue, p ∈ t.foldQueue)
    (hfold : s.foldsIn w = true → t.foldsIn w = true)
    (hpass : (∃ p ∈ t.foldQueue, p.uid = f.uid) ∨ t.foldsIn f.uid.window = true) : s.passQuiet w = true := by
  obtain ⟨hlanes, hqueue, hfolds⟩ := (t.passQuiet_iff w).mp hquiet
  have hother : f.uid.window ≠ w := by
    rintro rfl
    rcases hpass with ⟨p, hp, hpu⟩ | hpass
    · exact hqueue p hp (by rw [hpu])
    · rw [hfolds] at hpass; cases hpass
  refine (s.passQuiet_iff w).mpr ⟨fun j => ?_, fun p hp => hqueue p (hq p hp), ?_⟩
  · by_cases hj : j = k
    · rw [hj, Lane.fills, hf]
      exact beq_false_of_ne hother
    · rw [← hl j hj]
      exact hlanes j
  · exact Bool.eq_false_iff.mpr fun h => Bool.eq_false_iff.mp hfolds (hfold h)

/-- A pass that is staged behind a fold in progress waits. -/
theorem State.Still.stagePass (h : s.Still) (hf : s.lanes[k].filling = some f) (hfold : s.fold ≠ none) (content : List Byte) :
    (s.stagePass k f content).Still := by
  refine h.of_drain h.waiting (State.atOnceDrain_mono h.parts.2.2.1 rfl fun w hcl hquiet => ⟨hcl, ?_⟩) ?_ rfl rfl rfl rfl rfl
    h.testDue
  · refine State.passQuiet_of_staged hf hquiet (fun j hj => ?_) (fun p hp => List.mem_append_left _ hp) (fun hw => hw)
      (.inl ⟨⟨k, f.buffer, f.uid⟩, List.mem_append_right _ List.mem_cons_self, rfl⟩)
    rw [State.stagePass_fills, if_neg hj]
  · change (s.fold == none && _) = false
    rw [beq_false_of_ne hfold]
    rfl

/-- In a still state with an idle fold engine no pass is staged (R56). -/
theorem State.Still.foldQueue_nil (h : s.Still) (hfold : s.fold = none) : s.foldQueue = [] := by
  have := h.parts.2.1
  rw [State.foldDue, hfold] at this
  simpa using this

/-! ### Admission of a pass taken at once -/

theorem State.foldStart_admission {p : StagedPass} {i : Fin 32} (hq : s.foldQueue = [p]) (hset : s.isSettled p.uid = false)
    (hfind : s.findContext p.uid = none) (hfree : s.freeSlot = some i)
    (hroom : (s.profile p.uid.window).granuleCount ≤ s.freeList.length) :
    s.foldStart = { s with foldQueue := [] }.admission p i := by
  have checks : { s with foldQueue := [] }.foldChecks p = { s with foldQueue := [] }.tryAdmit p := by
    unfold State.foldChecks
    rw [if_neg (by rw [show State.isSettled { s with foldQueue := [] } p.uid = false from hset]; exact Bool.false_ne_true),
      show State.findContext { s with foldQueue := [] } p.uid = none from hfind]
  unfold State.foldStart
  rw [hq]
  dsimp only
  rw [checks]
  unfold State.tryAdmit
  rw [show State.freeSlot { s with foldQueue := [] } = some i from hfree]
  exact if_pos hroom

theorem State.freeSlot_iff (i : Fin 32) : s.freeSlot = some i ↔ s.contexts[i] = none ∧ ∀ j : Fin 32, j < i → s.contexts[j] ≠ none := by
  unfold State.freeSlot
  rw [find?_finRange_iff]
  simp [Option.isSome_iff_ne_none]

theorem State.atOnce_of_foldDue (hb : ∀ x ∈ s.active, x.waiting = []) (hr : s.repairDue = false) (hf : s.foldDue = true) :
    s.atOnce = some s.foldStart := by
  have take : s.atOnceTake = some s.foldStart := by
    unfold State.atOnceTake
    rw [if_neg (by rw [hr]; exact Bool.false_ne_true), if_pos hf]
  unfold State.atOnce
  rw [s.atOnceBeats_of_waiting hb, take]
  rfl

/-- A new context of a fold makes no drain due. -/
theorem State.atOnceDrain_newContext {s t : State} (h : s.atOnceDrain = none) {i : Fin 32} {d : Context}
    (hi : s.contexts[i] = none) (hd : d.state ≠ .opened) (ht : t.contexts = s.contexts.set i.val (some d))
    (hw : ∀ w : Fin 8, t.windows[w].state = .closing → t.passQuiet w = true →
      s.windows[w].state = .closing ∧ s.passQuiet w = true) : t.atOnceDrain = none := by
  have get : ∀ j : Fin 32, t.contexts[j] = if j = i then some d else s.contexts[j] := fun j => by
    rw [ht]
    exact s.setContext_get i j (some d)
  refine State.atOnceDrain_less h hw (fun j x hj ho => ?_) fun j x hj _ => ⟨j, x, ?_, rfl⟩
  · rw [get] at hj
    split at hj
    · cases hj
      exact absurd ho hd
    · exact ⟨j, x, hj, ho, rfl⟩
  · rw [get, if_neg, hj]
    rintro rfl
    rw [hi] at hj
    cases hj

/-- A completed pass that the idle fold engine takes at once and admits (R45, R56, R71). -/
theorem State.Still.admitStaged (h : s.Still) (hf : s.lanes[k].filling = some f) (content : List Byte)
    (hfold : s.fold = none) {i : Fin 32} (hi : s.contexts[i] = none) :
    ({ s.stagePass k f content with foldQueue := [] }.admission ⟨k, f.buffer, f.uid⟩ i).Still := by
  have fresh : (Context.admitted f.uid (s.freeList.take (s.profile f.uid.window).granuleCount)).state ≠ .opened :=
    fun e => by cases e
  refine h.of_drain h.waiting (State.atOnceDrain_newContext h.parts.2.2.1 hi fresh rfl fun w hcl hquiet => ⟨hcl, ?_⟩) rfl
    rfl rfl rfl rfl rfl h.testDue
  refine State.passQuiet_of_staged hf hquiet (fun j hj => ?_) (fun p hp => ?_) (fun hw => ?_) (.inr (beq_self_eq_true _))
  · exact (s.stagePass_fills content j w).trans (if_neg hj)
  · rw [h.foldQueue_nil hfold] at hp
    cases hp
  · rw [State.foldsIn, hfold] at hw
    cases hw

/-- The idle fold engine takes the pass just staged, and admits its unit. -/
theorem State.Still.atOnce_staged (h : s.Still) (hfold : s.fold = none) (hset : s.isSettled f.uid = false)
    (hfind : s.findContext f.uid = none) {i : Fin 32} (hi : s.contexts[i] = none)
    (hleast : ∀ j : Fin 32, j < i → s.contexts[j] ≠ none)
    (hroom : (s.profile f.uid.window).granuleCount ≤ s.freeList.length) (content : List Byte) :
    ((s.stagePass k f content).answered k).atOnce
      = some (({ s.stagePass k f content with foldQueue := [] }.admission ⟨k, f.buffer, f.uid⟩ i).answered k) := by
  have staged : ((s.stagePass k f content).answered k).foldQueue = [⟨k, f.buffer, f.uid⟩] := by
    change s.foldQueue ++ _ = _
    rw [h.foldQueue_nil hfold]
    rfl
  have due : ((s.stagePass k f content).answered k).foldDue = true := by
    rw [State.foldDue, staged, show ((s.stagePass k f content).answered k).fold = none from hfold]
    rfl
  rw [State.atOnce_of_foldDue (s := (s.stagePass k f content).answered k) h.waiting h.parts.1 due,
    State.foldStart_admission staged hset hfind ((s.freeSlot_iff i).mpr ⟨hi, hleast⟩) hroom]
  rfl

theorem State.Still.exec_admitted (h : s.Still) (ht : s.Takes (oneBeat k a b))
    (hc : classifyBeat s.windows k a = .slot f.uid f.expected r true closing) (hr : r ≠ .verdict) (ho : f.expected ≠ 0)
    (hf : s.lanes[k].filling = some f) (he : b.enables.all = true)
    (hlast : f.expected = (s.profile f.uid.window).dataSize) (hfold : s.fold = none) (hset : s.isSettled f.uid = false)
    (hfind : s.findContext f.uid = none) {i : Fin 32} (hi : s.contexts[i] = none) (hleast : ∀ j : Fin 32, j < i → s.contexts[j] ≠ none)
    (hroom : (s.profile f.uid.window).granuleCount ≤ s.freeList.length) : exec (.requestTake (oneBeat k a b)) s
      = .next (({ s.stagePass k f ((s.lanes[k].buffer f.buffer).content ++ b.data.bytes) with foldQueue := [] }.admission
        ⟨k, f.buffer, f.uid⟩ i).answered k) := by
  have lane : s.laneBeat k f.uid f.expected closing b
      = some (s.stagePass k f ((s.lanes[k].buffer f.buffer).content ++ b.data.bytes)) := by
    rw [State.laneBeat_expected ho (Lane.expects_of_filling hf), if_pos he, State.appendBeat_of_last hlast]
  have settled := ((h.admitStaged hf _ hfold hi).answered k).settle_two_steps (k := k)
    (h.atOnce_capture ht.free hc hr _ lane rfl)
    (h.atOnce_staged hfold hset hfind hi hleast hroom _) (joined := []) (List.append_nil _).symm nofun
  exact (State.Takes.exec_write ht).trans (congrArg _ settled)

end

/-- Settles O14. -/
theorem beatAtTheExpectedOffset : Obligations.BeatAtTheExpectedOffset := by
  intro k a b f r closing s hs ht hc hr ho hf p content
  have expected := Lane.expects_of_filling hf
  have lane : ∀ b : Beat, s.laneBeat k f.uid f.expected closing b
      = some (if b.enables.all = true then s.appendBeat k f f.expected b.data else s.tear k) :=
    fun b => State.laneBeat_expected ho expected
  refine ⟨fun he hd => ?_, fun he hd hfold => ?_, fun i he hd hfold hset hfind hi hleast hroom => ?_, fun he hopen => ?_⟩
  · have hv := lane b
    rw [if_pos he, State.appendBeat_of_inside hd] at hv
    rw [hs.exec_capture ht hc hr hv rfl rfl (hs.setLane fun w hw => by rw [Lane.fills, hf] at hw; exact hw)]
    rfl
  · have hv := lane b
    rw [if_pos he, State.appendBeat_of_last hd] at hv
    rw [hs.exec_capture ht hc hr hv rfl rfl (hs.stagePass hf hfold _)]
    rfl
  · rw [hs.exec_admitted ht hc hr ho hf he hd hfold hset hfind hi hleast hroom, ← hs.foldQueue_nil hfold]
    rfl
  · have hv := lane b
    rw [if_neg (by rw [he]; exact Bool.false_ne_true)] at hv
    have parts := s.tear_of_filling k f hf
    rw [hs.exec_capture ht hc hr hv (by rw [parts]) (by rw [parts]) (hs.tear_of_stays hf (.inl hopen)), parts]
    rfl

/-- Settles O15. -/
theorem orphanBeatCounts : Obligations.OrphanBeatCounts := by
  intro k a b u o r closing s hs ht hc hr torn
  refine ⟨fun ho hnone hlate => ?_, fun ho hopen he hnone => ?_, fun f ho hopen he hf => ?_⟩
  · have hv := State.laneBeat_unexpected (s := s) (closing := closing) (b := b) ho (Lane.expects_none hnone)
    rw [if_neg hlate] at hv
    rw [hs.exec_capture ht hc hr hv rfl rfl (hs.orphan _)]
    rfl
  · have hv := State.laneBeat_orphanStart (s := s) (k := k) (u := u) ho hopen he
    rw [s.tear_of_none k hnone] at hv
    rw [hs.exec_capture ht hc hr hv rfl rfl ((hs.endLateRun k).orphan _)]
    rfl
  · intro w hstays once
    have hv := State.laneBeat_orphanStart (s := s) (k := k) (u := u) ho hopen he
    have parts := s.tear_of_filling k f hf
    rw [hs.exec_capture ht hc hr hv (by rw [parts]; rfl) (by rw [parts]; rfl)
      (((hs.tear_of_stays hf hstays).endLateRun k).orphan _), parts]
    unfold State.answered State.orphan State.endLateRun State.bump State.setFlag State.setWindow State.setLane
    dsimp only
    rw [Vector.set_set, BitVec.or_assoc, show (0x004 : BitVec 12) ||| Flag.torn.mask = 0x004 from rfl]
    simp [once, w, Counters.bump]

/-- Settles O17. -/
theorem latePassInAClosingWindow : Obligations.LatePassInAClosingWindow := by
  intro k a b u o r closing s hs ht hc hr
  refine ⟨fun ho hcl hnone => ?_, fun f ho hcl hf => ?_, fun ho hnone hlate => ?_⟩
  · have hv := State.laneBeat_late (s := s) (k := k) (u := u) (b := b) ho hcl
    rw [s.tear_of_none k hnone] at hv
    rw [hs.exec_capture ht hc hr hv rfl rfl ((hs.endLateRun k).beginLate k u)]
    unfold State.answered State.beginLate State.endLateRun State.bump State.setFlag State.setWindow State.setLane
    dsimp only
    rw [Vector.set_set]
    simp [Counters.bump]
    rfl
  · intro w hstays torn
    have hv := State.laneBeat_late (s := s) (k := k) (u := u) (b := b) ho hcl
    have parts := s.tear_of_filling k f hf
    rw [hs.exec_capture ht hc hr hv (by rw [parts]; rfl) (by rw [parts]; rfl)
      (((hs.tear_of_stays hf hstays).endLateRun k).beginLate k u), parts]
    unfold State.answered State.beginLate State.endLateRun State.bump State.setFlag State.setWindow State.setLane
    dsimp only
    rw [Vector.set_set, Vector.set_set]
    simp [torn, w, Counters.bump]
    rfl
  · have hv := State.laneBeat_unexpected (s := s) (closing := closing) (b := b) ho (Lane.expects_none hnone)
    rw [if_pos hlate] at hv
    by_cases hgo : b.enables.all = true ∧ o ≠ (s.profile u.window).dataSize
    · rw [State.continueLate, if_pos hgo] at hv
      rw [hs.exec_capture ht hc hr hv rfl rfl (hs.setLane fun _ h => h), if_pos hgo]
      rfl
    · rw [State.continueLate, if_neg hgo] at hv
      rw [hs.exec_capture ht hc hr hv rfl rfl (hs.endLateRun k), if_neg hgo]
      rfl

/-! ### Withheld beats -/

/-- Settles O16. -/
theorem stalledLaneWithholdsTheBeat : Obligations.StalledLaneWithholdsTheBeat := by
  intro k a b rest u s hs ht hc he hnone h0 h1
  have taken : (s.takeWrite k a (b :: rest)).active = s.active ++ [Active.taken k (classifyBeats s.windows k a (b :: rest))] := rfl
  have withheld : (s.takeWrite k a (b :: rest)).laneBeat k u 0 false b = none := by
    have none : s.laneBeat k u 0 false b = none := by
      rw [State.laneBeat_start rfl rfl he, s.tear_of_none k hnone, State.startPass_none]
      exact ⟨h0, h1⟩
    have := State.laneBeat_withActive s (s.active ++ [Active.taken k (classifyBeats s.windows k a (b :: rest))]) k u 0 false b
    rw [none] at this
    exact this
  have beats : (s.takeWrite k a (b :: rest)).atOnceBeats = none := by
    rw [State.atOnceBeats_last taken hs.waiting, State.advance_capture (u := u) (o := 0) (r := .data) (closing := false)
      _ rfl hc rfl, if_neg nofun]
    exact congrArg _ withheld
  have quiet : (s.takeWrite k a (b :: rest)).Quiet :=
    (State.quiet_iff _).mpr ⟨beats, (State.atOnceTake_none _).mpr ⟨hs.parts.1, hs.parts.2.1⟩,
      State.atOnceDrain_mono (s := s) hs.parts.2.2.1 rfl fun _ hw hq => ⟨hw, hq⟩,
      State.atOnceBacklog_none_congr (s := s) hs.parts.2.2.2.1 rfl rfl, State.feed_none_congr (s := s) rfl rfl rfl hs.parts.2.2.2.2⟩
  have others : s.active.map Active.markStalled = s.active :=
    (List.map_congr_left fun x hx => x.markStalled_of_none (hs.waiting x hx)).trans (List.map_id _)
  rw [ht.exec_write, State.settle_of_quiet _ quiet,
    State.testHolds_of_not_due (s.takeWrite k a (b :: rest)).markStalled hs.testDue, State.markStalled, taken,
    List.map_append, others]
  rfl

end Sys2Proof.Machine

/-! Overrides (R16 to R18). -/

namespace Sys2Proof.Machine

section
variable {s : State} {u : UnitId}

theorem State.lanesLeft_of_none {p : UnitId → Bool} (h : ∀ r, s.fold = some r → p r.pass.uid = false) : s.lanesLeft p = s.lanes := by
  unfold State.lanesLeft
  cases hf : s.fold with
  | none => rfl
  | some r => exact if_neg (by rw [h r hf]; exact Bool.false_ne_true)

theorem State.lanesLeft_of_fold {p : UnitId → Bool} {r : FoldRecord} (hf : s.fold = some r) (hp : p r.pass.uid = true) :
    s.lanesLeft p = s.lanes.set r.pass.lane (s.lanes[r.pass.lane].setBuffer r.pass.buffer .free) := by
  unfold State.lanesLeft
  rw [hf]
  exact if_pos hp

theorem Lane.setBuffer_buffer (l : Lane) (i : Fin 2) (x : Buffer) : (l.setBuffer i x).buffer i = x := by
  unfold Lane.setBuffer Lane.buffer
  split <;> rfl

theorem filter_eq_none_of {α : Type} {o : Option α} {p : α → Bool} {x : α} (h : o = some x) (hp : p x = false) :
    o.filter p = none := by
  rw [h, Option.filter_some, if_neg (by rw [hp]; exact Bool.false_ne_true)]

theorem filter_eq_self_of {α : Type} {o : Option α} {p : α → Bool} (h : ∀ x, o = some x → p x = true) : o.filter p = o := by
  cases o with
  | none => rfl
  | some x => rw [Option.filter_some, if_pos (h x rfl)]

/-- After the release of a unit's context no slot holds the unit. -/
theorem State.findContext_contextsLeft (h : s.UnitsDistinct) {t : State} (ht : t.contexts = s.contextsLeft u) :
    t.findContext u = none := by
  refine (t.findContext_none u).mpr fun i c hi hu => ?_
  rw [ht] at hi
  have hc := s.contextsLeft_from u i c hi
  rw [State.contextsLeft, h.findContext u i c hc hu] at hi
  have free := State.setContext_get_self s i none
  rw [State.setContext] at free
  exact absurd (free.symm.trans hi) nofun

/-- A store of a window in its own state leaves every window's state. -/
theorem windows_set_state (ws : Vector Window 8) (v : Fin 8) (x : Window) (h : x.state = ws[v].state) (w : Fin 8) :
    (ws.set v.val x)[w].state = ws[w].state := by
  by_cases hw : w = v
  · subst hw
    rw [Fin.getElem_fin, Vector.getElem_set_self]
    exact h
  · rw [Fin.getElem_fin, Vector.getElem_set_ne _ _ fun e => hw (Fin.ext e.symm)]
    rfl

theorem State.overrideUnit_fold_stopped {r : FoldRecord} (hf : s.fold = some r) (hu : r.pass.uid = u) :
    (s.overrideUnit u).fold = none ∧ (s.overrideUnit u).lanes[r.pass.lane].buffer r.pass.buffer = .free := by
  have same : (r.pass.uid == u) = true := beq_iff_eq.mpr hu
  rw [s.overrideUnit_eq u]
  dsimp only
  refine ⟨filter_eq_none_of hf (by rw [same]; rfl), ?_⟩
  rw [State.lanesLeft_of_fold hf same, Fin.getElem_fin, Vector.getElem_set_self, Lane.setBuffer_buffer]

theorem State.overrideUnit_fold_kept (h : ∀ r, s.fold = some r → r.pass.uid ≠ u) :
    (s.overrideUnit u).fold = s.fold ∧ (s.overrideUnit u).lanes = s.lanes := by
  have other : ∀ r, s.fold = some r → (r.pass.uid == u) = false := fun r hr => beq_false_of_ne (h r hr)
  rw [s.overrideUnit_eq u]
  dsimp only
  exact ⟨filter_eq_self_of fun r hr => by rw [other r hr]; rfl, State.lanesLeft_of_none other⟩

theorem State.overrideUnit_repair_kept (h : ∀ r, s.repair = some r → r.uid ≠ u) : (s.overrideUnit u).repair = s.repair := by
  rw [s.overrideUnit_eq u]
  exact filter_eq_self_of fun r hr => by rw [beq_false_of_ne (h r hr)]; rfl

theorem State.unitsLeft_unit_iff (i : Fin 32) :
    s.unitsLeft (· == u) i = true ↔ ∀ c, s.contexts[i] = some c → c.uid ≠ u := by
  unfold State.unitsLeft
  cases s.contexts[i] <;> simp

theorem State.contextsLeft_of_found {i : Fin 32} {c : Context} (hfind : s.findContext u = some i) (hc : s.contexts[i] = some c) :
    s.contextsLeft u = s.contexts.set i.val none ∧ s.freeListAfter u = s.freeList ++ c.granules := by
  unfold State.contextsLeft State.freeListAfter
  rw [hfind]
  dsimp only
  rw [hc]
  exact ⟨rfl, rfl⟩

theorem State.contextsLeft_of_none (hfind : s.findContext u = none) :
    s.contextsLeft u = s.contexts ∧ s.freeListAfter u = s.freeList := by
  unfold State.contextsLeft State.freeListAfter
  rw [hfind]
  exact ⟨rfl, rfl⟩

end

/-- Settles O18. -/
theorem overrideWithdrawsTheUnit : Obligations.OverrideWithdrawsTheUnit := by
  intro s u hdistinct t
  have ht : t = s.overrideUnit u := rfl
  have eq := s.overrideUnit_eq u
  rw [← ht] at eq
  refine ⟨by rw [eq], by rw [eq], fun r hf hu => State.overrideUnit_fold_stopped hf hu, State.overrideUnit_fold_kept,
    fun r hr hu => ?_, State.overrideUnit_repair_kept, fun i => ?_,
    State.findContext_contextsLeft hdistinct (by rw [eq]), fun i c hfind hc => ?_, fun hfind => ?_, ?_, by rw [eq], by rw [eq],
    by rw [eq], by rw [eq], by rw [eq], by rw [eq], by rw [eq], by rw [eq], by rw [eq], s.overrideUnit_untouched u⟩
  · rw [eq]
    exact filter_eq_none_of hr (by rw [beq_iff_eq.mpr hu]; rfl)
  · rw [eq]
    dsimp only
    rw [List.mem_filter, State.unitsLeft_unit_iff]
  · rw [eq]
    exact State.contextsLeft_of_found hfind hc
  · rw [eq]
    exact State.contextsLeft_of_none hfind
  · rw [eq]
    simp [State.isSettled, mem_insertAsc]

/-! ### An override of an idle unit -/

section
variable {s : State} {k : Fin 4} {a : Addr} {b : Beat} {u : UnitId} {o : Nat} {r : Region} {closing : Bool}

/-- No work on the unit is under way: no context, no ungranted entry, no posting, no fold, no repair. -/
structure State.IdleUnit (s : State) (u : UnitId) : Prop where
  context : s.findContext u = none
  entries : ∀ e ∈ s.queue, e.owner ≠ some u
  postings : ∀ x ∈ s.postings, x.owner ≠ some u
  fold : ∀ x, s.fold = some x → x.pass.uid ≠ u
  repair : ∀ x, s.repair = some x → x.uid ≠ u

theorem State.unitsLeft_of_idle (h : s.findContext u = none) (i : Fin 32) : s.unitsLeft (· == u) i = true :=
  (State.unitsLeft_unit_iff i).mpr ((s.findContext_none u).mp h i)

/-- The override of an idle unit settles it, and lets an empty queue's run count start anew. -/
theorem State.IdleUnit.overrideUnit_eq (h : s.IdleUnit u) : s.overrideUnit u = { s with
    windows := s.windows.set u.window { s.windows[u.window] with
      settled := insertAsc u.unit s.windows[u.window].settled
      counters := { s.windows[u.window].counters with overrides := satInc s.windows[u.window].counters.overrides } }
    flags := s.flags ||| 0x040
    runCount := if s.queue = [] then 0 else s.runCount } := by
  have entries : s.queue.filter (fun e => e.owner != some u) = s.queue :=
    List.filter_eq_self.mpr fun e he => bne_iff_ne.mpr (h.entries e he)
  have postings : s.postings.filter (fun x => x.owner != some u) = s.postings :=
    List.filter_eq_self.mpr fun x hx => bne_iff_ne.mpr (h.postings x hx)
  have noEntry : s.queue.any (fun e => e.owner == some u) = false :=
    List.any_eq_false.mpr fun e he => by simpa using h.entries e he
  have noPosting : s.postings.any (fun x => x.owner == some u) = false :=
    List.any_eq_false.mpr fun x hx => by simpa using h.postings x hx
  have noFold : s.fold.any (fun r => r.pass.uid == u) = false := by
    rw [Option.any_eq_false_iff_get]
    exact fun hs => by simpa using h.fold _ (Option.some_get hs).symm
  have noRepair : s.repair.any (fun r => r.uid == u && r.phase.posts) = false := by
    rw [Option.any_eq_false_iff_get]
    exact fun hs => by rw [beq_false_of_ne (h.repair _ (Option.some_get hs).symm)]; rfl
  have queue : s.repairQueue.filter (s.unitsLeft (· == u)) = s.repairQueue :=
    List.filter_eq_self.mpr fun i _ => State.unitsLeft_of_idle h.context i
  have fold : s.fold.filter (fun r => !(r.pass.uid == u)) = s.fold :=
    filter_eq_self_of fun r hr => by rw [beq_false_of_ne (h.fold r hr)]; rfl
  have repair : s.repair.filter (fun r => !(r.uid == u)) = s.repair :=
    filter_eq_self_of fun r hr => by rw [beq_false_of_ne (h.repair r hr)]; rfl
  have lanes : s.lanesLeft (· == u) = s.lanes := State.lanesLeft_of_none fun r hr => beq_false_of_ne (h.fold r hr)
  obtain ⟨contexts, freeList⟩ := State.contextsLeft_of_none h.context
  rw [s.overrideUnit_eq u, entries, postings, noEntry, noPosting, noFold, noRepair, queue, fold, repair, lanes, contexts, freeList]
  simp only [Bool.or_false]

theorem WaitingBeat.overrides_of_slot {wb : WaitingBeat} {capture : Bool} (hc : wb.cls = .slot u o r capture closing) (hr : r ≠ .verdict) :
    wb.overrides = wb.beat.enables.any := by
  unfold WaitingBeat.overrides
  rw [hc]
  cases r with
  | data => rfl
  | check => rfl
  | verdict => exact absurd rfl hr

theorem State.overrideRecord_of_idle (h : s.findContext u = none) :
    s.overrideRecord u = ⟨u, (s.profile u.window).slotAddr u.unit, (s.profile u.window).dataSize, 0, 0, 0, .none⟩ := by
  unfold State.overrideRecord
  dsimp only
  rw [h]

/-- The state with one more through-transaction and one more taken request. -/
def State.forwarded (s : State) (t : Through) (a : Active) : State :=
  { s with through := s.through ++ [t], active := s.active ++ [a] }

/-- A one-beat direct write that overrides its slot is forwarded with an override record (R16 to R18). -/
theorem State.Still.atOnce_override (h : s.Still) (hfree : s.busyInitiator k = false)
    (hc : classifyBeat s.windows k a = .slot u o r false closing) (hr : r ≠ .verdict) (he : b.enables.any = true) :
    (s.takeWrite k a [b]).atOnce = some ((s.forwarded ⟨k, a, .write [b], some (s.overrideRecord u)⟩
      ⟨k, [], 1, false, false, false⟩).overrideUnit u) := by
  have taken : (s.takeWrite k a [b]).active = s.active ++ [Active.taken k [⟨a, b, .slot u o r false closing⟩]] := by
    rw [← hc]
    rfl
  have covered : overridden ⟨a, b, .slot u o r false closing⟩ [⟨a, b, .slot u o r false closing⟩] = some u := by
    unfold overridden
    exact if_pos (by rw [List.any_cons, WaitingBeat.overrides_of_slot rfl hr, he]; rfl)
  have dealt := State.dealt_of_open
    (t := (s.takeWrite k a [b]).joinThrough ⟨k, a, .write [b], some (s.overrideRecord u)⟩) taken
    (State.notAmong_of_free hfree) 1 1 (by simp [Active.afterBeats])
  have forward : (s.takeWrite k a [b]).forwardPiece (Active.taken k [⟨a, b, .slot u o r false closing⟩])
      ⟨a, b, .slot u o r false closing⟩ [] = (s.forwarded ⟨k, a, .write [b], some (s.overrideRecord u)⟩
        ⟨k, [], 1, false, false, false⟩).overrideUnit u := by
    unfold State.forwardPiece
    dsimp only [nextPiece, List.takeWhile_nil]
    rw [covered]
    exact congrArg (fun t => State.overrideUnit t u) dealt
  refine State.atOnce_of_beats ?_
  rw [State.atOnceBeats_last taken h.waiting]
  exact congrArg some forward

end

/-- Settles O19. -/
theorem directWriteOverridesAnIdleUnit : Obligations.DirectWriteOverridesAnIdleUnit := by
  intro k a b u o r closing s hs ht hc hr he hcontext hentries hpostings hfold hrepair
  have step := hs.atOnce_override (k := k) ht.free hc hr he
  have idle : (s.forwarded ⟨k, a, .write [b], some (s.overrideRecord u)⟩ ⟨k, [], 1, false, false, false⟩).IdleUnit u :=
    ⟨hcontext, hentries, hpostings, hfold, hrepair⟩
  rw [idle.overrideUnit_eq, State.overrideRecord_of_idle hcontext] at step
  refine (State.Takes.exec_write ht).trans (congrArg _ (State.Still.settle_step (k := k) ?_ step (joined := [⟨k, a, .write [b],
    some ⟨u, (s.profile u.window).slotAddr u.unit, (s.profile u.window).dataSize, 0, 0, 0, .none⟩⟩]) rfl (by simp)))
  exact hs.congr (waiting_append hs.waiting rfl) (windows_set_state s.windows u.window _ rfl) (fun _ _ => rfl) rfl rfl rfl rfl
    rfl rfl rfl rfl hs.testDue

end Sys2Proof.Machine

/-! The fold engine: fold starts, the settle evaluation and the tallies (R63, R71 to R74, R81 to R97, R119). -/

namespace Sys2Proof.Machine

section
variable {s : State} {p : StagedPass} {i : Fin 32} {c : Context}

/-- What a calm state lets an event leave: a still state, when the engines and the feeding posting wait. -/
theorem State.Calm.still_of_due {t : State} (h : s.Calm) (ha : t.active = s.active)
    (hw : ∀ w : Fin 8, t.windows[w].state = s.windows[w].state) (hring : t.ring.backlog = s.ring.backlog)
    (hrepair : t.repairDue = false) (hf : t.foldDue = false) (hfeed : t.feed = none) (ht : t.testDue = s.testDue) :
    t.Still := by
  have waiting : ∀ a ∈ t.active, a.waiting = [] := by rw [ha]; exact h.waiting
  refine ⟨.of_parts t waiting hrepair hf (t.atOnceDrain_of_closing fun w => by rw [hw]; exact h.closing w)
    (State.atOnceBacklog_of_empty t ?_) hfeed, waiting, ht.trans h.testDue⟩
  rw [hring]
  exact h.backlog

theorem State.Calm.still_of {t : State} (h : s.Calm) (ha : t.active = s.active)
    (hw : ∀ w : Fin 8, t.windows[w].state = s.windows[w].state) (hring : t.ring.backlog = s.ring.backlog)
    (hrepair : t.repairQueue = []) (hf : t.foldDue = false) (hfeed : t.feed = none) (ht : t.testDue = s.testDue) : t.Still :=
  h.still_of_due ha hw hring (by simp [State.repairDue, hrepair]) hf hfeed ht

theorem exec_foldStart_of_staged (hf : s.fold = none) (hq : s.foldQueue = [p]) :
    exec .foldStart s = .next ({ s with foldQueue := [] }.foldChecks p).settle := by
  have due : s.foldDue = true := by rw [State.foldDue, hf, hq]; rfl
  have start : s.foldStart = { s with foldQueue := [] }.foldChecks p := by unfold State.foldStart; rw [hq]
  change execFoldStart s = _
  unfold execFoldStart
  rw [if_pos due, start]

/-! ### The three checks -/

theorem State.foldChecks_of_settled (h : s.isSettled p.uid = true) : s.foldChecks p = s.lateDiscard p := if_pos h

theorem State.foldChecks_of_unknown (h : s.isSettled p.uid = false) (hfind : s.findContext p.uid = none) :
    s.foldChecks p = s.tryAdmit p := by
  unfold State.foldChecks
  rw [if_neg (by rw [h]; exact Bool.false_ne_true), hfind]

theorem State.foldChecks_of_held (h : s.isSettled p.uid = false) (hfind : s.findContext p.uid = some i)
    (hc : s.contexts[i] = some c) : s.foldChecks p
      = if (s.profile p.uid.window).passLimit ≤ c.passes then s.lateDiscard p else s.beginUpdating p i := by
  unfold State.foldChecks
  rw [if_neg (by rw [h]; exact Bool.false_ne_true), hfind]
  dsimp only
  rw [hc]

theorem State.tryAdmit_of_free (hi : s.contexts[i] = none) (hleast : ∀ j : Fin 32, j < i → s.contexts[j] ≠ none)
    (hroom : (s.profile p.uid.window).granuleCount ≤ s.freeList.length) : s.tryAdmit p = s.admission p i := by
  unfold State.tryAdmit
  rw [(s.freeSlot_iff i).mpr ⟨hi, hleast⟩]
  exact if_pos hroom

theorem State.tryAdmit_of_full
    (h : (∀ j : Fin 32, s.contexts[j] ≠ none) ∨ s.freeList.length < (s.profile p.uid.window).granuleCount) :
    s.tryAdmit p = s.deny p := by
  unfold State.tryAdmit
  cases hs : s.freeSlot with
  | none => rfl
  | some i =>
    rcases h with h | h
    · exact absurd (s.freeSlot_some i hs) (h i)
    · exact if_neg (Nat.not_le.mpr h)

end

/-- Settles O27. -/
theorem latePassAtFoldStart : Obligations.LatePassAtFoldStart := by
  intro s p hs hf hq hlate
  have discard : { s with foldQueue := [] }.foldChecks p = { s with foldQueue := [] }.lateDiscard p := by
    cases hset : s.isSettled p.uid with
    | true => exact State.foldChecks_of_settled hset
    | false =>
      rcases hlate with h | ⟨i, c, hfind, hc, hlimit⟩
      · rw [hset] at h; cases h
      · exact (State.foldChecks_of_held (s := { s with foldQueue := [] }) hset hfind hc).trans (if_pos hlimit)
  have still : ({ s with foldQueue := [] }.lateDiscard p).Still :=
    hs.still_of rfl (State.bump_state (s := s.freePass p) _ _) rfl hs.repairQueue (Bool.and_false _)
      (State.feed_of_no_posting _ hs.postings) rfl
  rw [exec_foldStart_of_staged hf hq, discard, still.settle]
  rfl

/-! ### Admission -/

/-- Clearing granules makes their cells zero and leaves every other granule. -/
theorem readGranule_clearGranules (h : Nat) : ∀ (gs : List Nat) (v : List (Nat × List Cell)), VotesWf v →
    readGranule h (clearGranules gs v) = if h ∈ gs then zeroGranule else readGranule h v
  | [], _, _ => (if_neg List.not_mem_nil).symm
  | g :: gs, v, hv => by
    have ih := readGranule_clearGranules h gs _ (writeGranule_wf g zeroGranule v hv)
    rw [readGranule_writeGranule g h zeroGranule v hv] at ih
    rw [clearGranules, List.foldl_cons, ← clearGranules, ih]
    by_cases hg : h = g <;> simp [hg]

/-- Settles O28. -/
theorem admissionAtFoldStart : Obligations.AdmissionAtFoldStart := by
  intro s p i hs hf hq hset hfind hi hleast hroom hwf g
  have still : ({ s with foldQueue := [] }.admission p i).Still :=
    hs.still_of rfl (fun _ => rfl) rfl hs.repairQueue rfl (State.feed_of_no_posting _ hs.postings) rfl
  refine ⟨clearGranules (s.freeList.take g) s.votes, ?_, fun h hh => ?_, fun h hh => ?_⟩
  · rw [exec_foldStart_of_staged hf hq, State.foldChecks_of_unknown (s := { s with foldQueue := [] }) hset hfind,
      State.tryAdmit_of_free (s := { s with foldQueue := [] }) hi hleast hroom, still.settle]
    rfl
  · rw [readGranule_clearGranules h _ _ hwf, if_pos hh]
    rfl
  · rw [readGranule_clearGranules h _ _ hwf, if_neg hh]

/-! ### Denial -/

theorem rawSteps_front (p : Profile) : ∃ x xs, rawSteps p = x :: xs ∧ x ≠ .notice := by
  unfold rawSteps
  cases p.chunkCount with
  | zero => exact ⟨.trailer, [.notice], rfl, nofun⟩
  | succ n =>
    rw [List.range_succ_eq_map]
    exact ⟨_, _, rfl, nofun⟩

/-- Settles O29. -/
theorem denialAtFoldStart : Obligations.DenialAtFoldStart := by
  intro s p hs hf hq hset hfind hfull hqueue clean
  obtain ⟨x, xs, hsteps, hx⟩ := rawSteps_front (s.profile p.uid.window)
  have denied : { s with foldQueue := [] }.deny p = { s with
      foldQueue := []
      windows := s.windows.set p.uid.window { s.windows[p.uid.window] with
        counters := { s.windows[p.uid.window].counters with denials := satInc s.windows[p.uid.window].counters.denials } }
      flags := s.flags ||| 0x010
      fold := some ⟨p, .raw clean⟩
      postings := [⟨.raw p clean, some p.uid, rawSteps (s.profile p.uid.window)⟩] } := by
    have nil := hs.postings
    unfold State.deny State.beginPosting State.setFlag State.bump State.setWindow
    dsimp only
    rw [nil]
    rfl
  have still : ({ s with foldQueue := [] }.deny p).Still := by
    rw [denied]
    exact hs.still_of rfl (windows_set_state s.windows p.uid.window _ rfl) rfl hs.repairQueue rfl
      (State.feed_of_full _ _ [] x xs p.uid rfl hsteps rfl hx (Nat.le_of_eq hqueue.symm)) rfl
  rw [exec_foldStart_of_staged hf hq, State.foldChecks_of_unknown (s := { s with foldQueue := [] }) hset hfind,
    State.tryAdmit_of_full (s := { s with foldQueue := [] }) hfull, still.settle, denied]
  rfl

/-! ### Fold start on a held context -/

/-- Settles O30. -/
theorem foldStartOnAHeldContext : Obligations.FoldStartOnAHeldContext := by
  intro s p i c hs hqueue hf hq hset hfind hc hlimit
  have begun : { s with foldQueue := [] }.beginUpdating p i = { s with
      foldQueue := []
      repairQueue := []
      repair := s.repair.filter (fun r => r.slot != i)
      contexts := s.contexts.set i (some { c with state := .folding })
      fold := some ⟨p, .updating i⟩ } := by
    have nil : s.repairQueue.filter (· != i) = [] := List.filter_eq_nil_iff.mpr fun j hj => by simp [hqueue j hj]
    rw [State.beginUpdating_eq { s with foldQueue := [] } p i c hc]
    dsimp only
    rw [nil]
  have still : ({ s with foldQueue := [] }.beginUpdating p i).Still := by
    rw [begun]
    exact hs.still_of rfl (fun _ => rfl) rfl rfl rfl (State.feed_of_no_posting _ hs.postings) rfl
  have checks : { s with foldQueue := [] }.foldChecks p = { s with foldQueue := [] }.beginUpdating p i :=
    (State.foldChecks_of_held (s := { s with foldQueue := [] }) hset hfind hc).trans (if_neg (Nat.not_le.mpr hlimit))
  rw [exec_foldStart_of_staged hf hq, checks, still.settle, begun]
  congr 2
  cases s.repair with
  | none => rfl
  | some r => by_cases hr : r.slot = i <;> simp [Option.filter_some, hr]

/-! ### The settle evaluation -/

theorem foldSteps_front (w : FoldWork) : ∃ x xs, foldSteps w = x :: xs ∧ x ≠ .notice := by
  unfold foldSteps
  cases w.dirty with
  | nil => cases w.outcome.final <;> exact ⟨_, _, rfl, nofun⟩
  | cons j js => exact ⟨_, _, rfl, nofun⟩

theorem exec_settleEvaluation_of_updating {s : State} {pass : StagedPass} {i : Fin 32} {c : Context}
    (hf : s.fold = some ⟨pass, .updating i⟩) (hc : s.contexts[i] = some c) :
    exec .settleEvaluation s = .next (s.evaluate pass i c).settle := by
  change execSettleEvaluation s = _
  unfold execSettleEvaluation
  rw [hf]
  dsimp only
  rw [hc]

theorem FoldOutcome.flag_mask {o : FoldOutcome} (h : o.final = true) :
    o.verdict.flag.mask = if o = .exhausted then 0x002 else 0x001 := by
  cases o with
  | good => rfl
  | agreed => rfl
  | exhausted => rfl
  | repair => cases h
  | opened => cases h

/-- Settles O31. -/
theorem settleEvaluationWritesTheOutcome : Obligations.SettleEvaluationWritesTheOutcome := by
  intro s pass i c hs hf hc hqueue
  obtain ⟨w, hw⟩ : ∃ w, w = foldWork (s.profile pass.uid.window) s.votes c (s.passContent pass) := ⟨_, rfl⟩
  have parts := s.evaluate_eq pass i c w hw
  rw [hs.postings, List.nil_append] at parts
  obtain ⟨x, xs, hsteps, hx⟩ := foldSteps_front w
  have state : ∀ v : Fin 8, (s.evaluate pass i c).windows[v].state = s.windows[v].state := by
    rw [parts]
    dsimp only
    split
    · exact windows_set_state s.windows pass.uid.window _ rfl
    · exact fun _ => rfl
  have still : (s.evaluate pass i c).Still := by
    refine hs.still_of (by rw [parts]) state (by rw [parts]) (by rw [parts]; exact hs.repairQueue) (by rw [parts]; rfl)
      ?_ (by rw [parts])
    rw [parts]
    exact State.feed_of_full _ _ [] x xs pass.uid rfl hsteps rfl hx (Nat.le_of_eq hqueue.symm)
  have flags : (if w.outcome.final = true then s.flags ||| w.outcome.verdict.flag.mask else s.flags)
      = if w.outcome.final = true then s.flags ||| (if w.outcome = .exhausted then 0x002 else 0x001) else s.flags := by
    by_cases h : w.outcome.final = true
    · rw [if_pos h, if_pos h, FoldOutcome.flag_mask h]
    · rw [if_neg h, if_neg h]
  rw [exec_settleEvaluation_of_updating hf hc, still.settle, parts, flags, hw]
  rfl

/-! ### Tallies -/

theorem updateCells_append (w : Nat) : ∀ (xs ys : List Cell) (bs : List Bool),
    updateCells w (xs ++ ys) bs = updateCells w xs (bs.take xs.length) ++ updateCells w ys (bs.drop xs.length)
  | [], ys, bs => by simp [updateCells]
  | x :: xs, ys, [] => by cases ys <;> simp [updateCells]
  | x :: xs, ys, b :: bs => by simp [updateCells, updateCells_append w xs ys bs]

/-- The cells updated are those a bit falls on. -/
theorem updateCells_take (w : Nat) : ∀ (cs : List Cell) (bs : List Bool),
    (updateCells w cs bs).take bs.length = List.zipWith (Cell.update w) (cs.take bs.length) bs
  | [], [] => rfl
  | [], _ :: _ => rfl
  | _ :: _, [] => rfl
  | c :: cs, b :: bs => by simp [updateCells, updateCells_take w cs bs]

theorem readGranule_updateGranules_of_not_mem (w : Nat) (g : Nat) : ∀ (gs : List Nat) (bits : List Bool)
    (v : List (Nat × List Cell)), VotesWf v → g ∉ gs → readGranule g (updateGranules w gs bits v) = readGranule g v
  | [], _, _, _, _ => rfl
  | h :: gs, bits, v, hv, hg => by
    obtain ⟨hne, hg⟩ := not_or.mp (List.mem_cons.not.mp hg)
    rw [updateGranules, readGranule_updateGranules_of_not_mem w g gs _ _ (writeGranule_wf h _ v hv) hg,
      readGranule_writeGranule h g _ v hv, if_neg hne]

/-- A unit's cells, granule by granule, are updated as one list. -/
theorem flatMap_updateGranules (w : Nat) : ∀ (gs : List Nat) (bits : List Bool) (v : List (Nat × List Cell)), VotesWf v →
    gs.Nodup → (∀ g ∈ gs, (readGranule g v).length = 1024) →
    gs.flatMap (fun g => readGranule g (updateGranules w gs bits v)) = updateCells w (gs.flatMap (fun g => readGranule g v)) bits
  | [], bits, v, _, _, _ => by cases bits <;> rfl
  | g :: gs, bits, v, hv, hnd, hlen => by
    obtain ⟨hg, hnd⟩ := List.nodup_cons.mp hnd
    obtain ⟨hlg, hlen⟩ := List.forall_mem_cons.mp hlen
    have hwf := writeGranule_wf g (updateCells w (readGranule g v) (bits.take Config.cellsPerGranule)) v hv
    have others : ∀ h ∈ gs, readGranule h (writeGranule g (updateCells w (readGranule g v) (bits.take Config.cellsPerGranule)) v)
        = readGranule h v := fun h hh => by
      rw [readGranule_writeGranule g h _ v hv, if_neg (fun e : h = g => hg (e ▸ hh))]
    rw [List.flatMap_cons, List.flatMap_cons, updateGranules, readGranule_updateGranules_of_not_mem w g gs _ _ hwf hg,
      readGranule_writeGranule g g _ v hv, if_pos rfl,
      flatMap_updateGranules w gs _ _ hwf hnd fun h hh => by rw [others h hh]; exact hlen h hh,
      List.flatMap_congr others, updateCells_append, hlg]
    rfl

/-- Settles O33. -/
theorem foldUpdatesTheTallies : Obligations.FoldUpdatesTheTallies := by
  refine ⟨fun c w bit => ?_, fun p votes granules w bits hwf hnd _ hlen hbits => ⟨?_, fun g hg => ?_⟩⟩
  · intro sum new
    have tally : new.tally = max (-7) (min 7 sum) := rfl
    have fused : new.fused = if 0 < new.tally then true else if new.tally < 0 then false else c.fused := rfl
    refine ⟨fun h => by omega, fun h => by omega, fun h h' => by omega, fun h => ?_, fun h => ?_, fun h => ?_⟩
    · rw [fused, if_pos h]
    · rw [fused, if_neg (by omega), if_pos h]
    · rw [fused, if_neg (by omega), if_neg (by omega)]
  · unfold unitCells
    rw [flatMap_updateGranules w granules bits votes hwf hnd hlen, ← hbits, updateCells_take]
  · exact readGranule_updateGranules_of_not_mem w g granules bits votes hwf hg

end Sys2Proof.Machine

/-! Postings: what a poster's entries and notice carry, the next entry of the feeding posting, and the fate of its notice
(R66, R67, R74, R98 to R102, R116 to R118, R128, R129, R160, R161). -/

namespace Sys2Proof.Machine

section
variable {s : State} {p : Poster} {u : UnitId} {i : Fin 32} {c : Context}

/-! ### What a poster copies -/

/-- The flip list that the posting of a context applies: the context's under REPAIRED, none otherwise. -/
def Context.postedFlips (c : Context) (p : Poster) : List Nat :=
  match p with
  | .repair _ .repaired => c.flips
  | _ => []

theorem Context.postedFlips_eq (hslot : p.slot = some i) :
    c.postedFlips p = if p = .repair i .repaired then c.flips else [] := by
  cases p with
  | repair j v =>
    cases hslot
    by_cases hv : v = .repaired
    · subst hv
      rw [if_pos rfl]
      rfl
    · rw [if_neg fun e => hv (by cases e; rfl)]
      unfold Context.postedFlips
      cases v with
      | repaired => exact absurd rfl hv
      | _ => rfl
  | _ => rfl

theorem State.posterContext_of_slot (hslot : p.slot = some i) : s.posterContext p = s.contexts[i] := by
  unfold State.posterContext
  rw [hslot]

theorem State.posterFlips_of_slot (hslot : p.slot = some i) (hc : s.contexts[i] = some c) :
    s.posterFlips p = c.postedFlips p := by
  unfold State.posterFlips Context.postedFlips
  rw [State.posterContext_of_slot hslot, hc]
  cases p with
  | repair j v => cases v <;> rfl
  | _ => rfl

theorem State.posterBits_of_slot (hslot : p.slot = some i) (hc : s.contexts[i] = some c) : s.posterBits u p
    = flipFrom (c.postedFlips p) 0 ((unitCells (s.profile u.window) c.granules s.votes).map Cell.fused) := by
  unfold State.posterBits
  rw [State.posterFlips_of_slot hslot hc, State.posterContext_of_slot hslot, hc]
  cases p with
  | raw pass clean => cases hslot
  | _ => rfl

theorem State.posterNotice_of_slot (hslot : p.slot = some i) (hc : s.contexts[i] = some c) : s.posterNotice u p
    = ⟨u, p.verdict, c.passes, c.weak, c.postedFlips p, c.lastRepair, c.clean⟩ := by
  unfold State.posterNotice
  rw [State.posterFlips_of_slot hslot hc, State.posterContext_of_slot hslot, hc]
  cases p with
  | raw pass clean => cases hslot
  | override r => cases hslot
  | _ => rfl

theorem Poster.counted_of_slot (hslot : p.slot = some i) : p.counted = true := by
  rw [Poster.counted, hslot]
  rfl

/-- The CHUNK entry of a fold, repair or drain posting (R98, R116). -/
theorem State.chunkEntry_of_slot (hslot : p.slot = some i) (hc : s.contexts[i] = some c) (j : Nat) : s.chunkEntry u p j
    = ⟨.chunk, (s.profile u.window).slotAddr u.unit + BitVec.ofNat 32 (64 * j), quadsOfBytes (bytesOfBits
      (((flipFrom (c.postedFlips p) 0 ((unitCells (s.profile u.window) c.granules s.votes).map Cell.fused)).drop
        (512 * j)).take 512)), some u, true⟩ := by
  rw [State.chunkEntry, State.posterBits_of_slot hslot hc, Poster.counted_of_slot hslot]

/-- The TRAILER entry of a posting with a check field, from the bits and the verdict word. -/
theorem State.trailerEntry_of_field (h : ∀ r, p ≠ .override r) : s.trailerEntry u p
    = ⟨.trailer, (s.profile u.window).slotAddr u.unit + BitVec.ofNat 32 (s.profile u.window).dataSize,
      checkField (bytesOfBits (checkBits (s.profile u.window) (s.posterBits u p))) ++ [s.posterVerdictWord u p], some u,
      p.counted⟩ := by
  cases p with
  | override r => exact absurd rfl (h r)
  | _ => rfl

/-- The TRAILER entry of a fold, repair or drain posting (R99, R118, R29). -/
theorem State.trailerEntry_of_slot (hslot : p.slot = some i) (hc : s.contexts[i] = some c) : s.trailerEntry u p
    = ⟨.trailer, (s.profile u.window).slotAddr u.unit + BitVec.ofNat 32 (s.profile u.window).dataSize,
      checkField (bytesOfBits (checkBits (s.profile u.window)
        (flipFrom (c.postedFlips p) 0 ((unitCells (s.profile u.window) c.granules s.votes).map Cell.fused))))
        ++ [verdictWord p.verdict c.passes c.weak (c.postedFlips p).length], some u, true⟩ := by
  rw [State.trailerEntry_of_field (fun r e => by rw [e] at hslot; cases hslot), State.posterBits_of_slot hslot hc,
    Poster.counted_of_slot hslot, State.posterVerdictWord, State.posterNotice_of_slot hslot hc]

theorem State.onPosterContext_of_slot {t : State} (hslot : p.slot = some i) (hc : t.contexts[i] = some c) (f : Context → Context) :
    t.onPosterContext p f = t.setContext i (some (f c)) := by
  unfold State.onPosterContext
  rw [hslot]
  exact t.modifyContext_of_held i f c hc

end

/-! ### The feeding posting's next step -/

section
variable {s t : State} {x : Posting} {rest : List Posting} {p : PostStep} {steps : List PostStep} {u : UnitId}

theorem State.feed_more (hs : s.postings = x :: rest) {q : PostStep} (hsteps : x.steps = p :: q :: steps)
    (ht : s.takeStep x p = some t) : s.feed = some { t with postings := { x with steps := q :: steps } :: rest } := by
  unfold State.feed
  rw [hs]
  dsimp only
  rw [hsteps]
  dsimp only
  rw [ht]

theorem State.feed_last (hs : s.postings = x :: rest) (hsteps : x.steps = [p]) (ht : s.takeStep x p = some t) :
    s.feed = some ({ t with postings := rest }.completePosting x) := by
  unfold State.feed
  rw [hs]
  dsimp only
  rw [hsteps]
  dsimp only
  rw [ht]

theorem State.feedNow_of_feed (h : s.feed = some t) : s.feedNow = t.settle := by
  unfold State.feedNow
  rw [h]

theorem exec_entryEntersQueue_of_feed (hs : s.postings = x :: rest) (hsteps : x.steps = p :: steps) (hp : p ≠ .notice)
    (h : s.feed = some t) : exec .entryEntersQueue s = .next t.settle := by
  have entry : s.feedsNotice = false := by
    unfold State.feedsNotice
    rw [hs]
    dsimp only
    rw [hsteps]
    exact beq_false_of_ne fun e => hp (by cases e; rfl)
  change execEntryEntersQueue s = _
  unfold execEntryEntersQueue
  rw [if_neg (by rw [entry]; exact Bool.false_ne_true), State.feedNow_of_feed h]

theorem exec_noticeAccepted_of_feed (hs : s.postings = x :: rest) (hsteps : x.steps = [.notice]) (h : s.feed = some t) :
    exec .noticeAccepted s = .next t.settle := by
  have notice : s.feedsNotice = true := by
    unfold State.feedsNotice
    rw [hs]
    dsimp only
    rw [hsteps]
    rfl
  change execNoticeAccepted s = _
  unfold execNoticeAccepted
  rw [if_pos notice, State.feedNow_of_feed h]

theorem State.takeStep_chunk (howner : x.owner = some u) (hroom : s.queue.length < 16) (j : Nat) : s.takeStep x (.chunk j)
    = some ((s.enterEntry (s.chunkEntry u x.poster j)).onPosterContext x.poster (Context.countChunk j)) := by
  unfold State.takeStep
  rw [howner]
  exact if_pos (s.queueHasRoom_of_lt hroom)

theorem State.takeStep_trailer (howner : x.owner = some u) (hroom : s.queue.length < 16) : s.takeStep x .trailer
    = some ((s.enterEntry (s.trailerEntry u x.poster)).onPosterContext x.poster Context.countEntry) := by
  unfold State.takeStep
  rw [howner]
  exact if_pos (s.queueHasRoom_of_lt hroom)

theorem State.takeStep_notice (howner : x.owner = some u) : s.takeStep x .notice = s.acceptNotice (s.posterNotice u x.poster) := by
  unfold State.takeStep
  rw [howner]

/-- A notice to be placed waits behind a full queue (R161). -/
theorem State.feed_of_noticeWaiting (hs : s.postings = x :: rest) (hsteps : x.steps = [.notice]) (howner : x.owner = some u)
    (hen : s.ring.enabled = true) (hb : s.ring.backlog = []) (hfull : s.ring.full = false) (hqueue : 16 ≤ s.queue.length) :
    s.feed = none := by
  have waits : s.takeStep x .notice = none := by
    rw [State.takeStep_notice howner, State.acceptNotice_placed s _ hen hb hfull,
      if_neg (by rw [s.queueHasRoom_of_full hqueue]; exact Bool.false_ne_true)]
  unfold State.feed
  rw [hs]
  dsimp only
  rw [hsteps]
  dsimp only
  rw [waits]

/-- A due hold test without held reads is all that is left to do in a state that is still but for it. -/
theorem State.Still.settle_dueTest (h : t.Still) (hh : ∀ k : Fin 4, t.holds[k] = none) : t.dueTest.settle = t := by
  have due := h.settle_testHolds (t := t.dueTest) rfl (State.atOnceDrain_mono (s := t) h.parts.2.2.1 rfl fun _ hw hq => ⟨hw, hq⟩)
    h.parts.2.1 rfl rfl rfl rfl (State.feed_none_congr (s := t) rfl rfl rfl h.parts.2.2.2.2)
  rw [due, State.testHolds_of_no_hold t.dueTest hh, ← h.testDue]
  rfl

end

section
variable {s : State} {x : Posting} {rest : List Posting} {u : UnitId} {i : Fin 32} {c : Context}

/-- An entry that takes the last place of the queue: the rest of its posting waits. -/
theorem State.Calm.settle_entered (h : { s with postings := [] }.Calm) (hf : s.FoldSettled) {t : State}
    (ht : ∃ queue contexts postings, t = { s with queue := queue, contexts := contexts, postings := postings })
    (hfeed : t.feed = none) : t.settle = t := by
  obtain ⟨queue, contexts, postings, rfl⟩ := ht
  have still : State.Still { s with queue := queue, contexts := contexts, postings := postings } :=
    h.still_of rfl (fun _ => rfl) rfl h.repairQueue hf hfeed rfl
  exact still.settle

theorem exec_entry_chunk (hp : s.postings = x :: rest) (howner : x.owner = some u) (hcalm : { s with postings := [] }.Calm)
    (hf : s.FoldSettled) (hqueue : s.queue.length = 15) {j : Nat} {next : PostStep} {more : List PostStep}
    (hsteps : x.steps = .chunk j :: next :: more) (hnext : next ≠ .notice) {contexts : Vector (Option Context) 32}
    (hcontexts : (s.enterEntry (s.chunkEntry u x.poster j)).onPosterContext x.poster (Context.countChunk j)
      = { s with queue := s.queue ++ [s.chunkEntry u x.poster j], contexts := contexts }) :
    exec .entryEntersQueue s = .next { s with
      queue := s.queue ++ [s.chunkEntry u x.poster j]
      contexts := contexts
      postings := { x with steps := next :: more } :: rest } := by
  have feed := State.feed_more hp hsteps (State.takeStep_chunk howner (by omega) j)
  rw [hcontexts] at feed
  rw [exec_entryEntersQueue_of_feed hp hsteps nofun feed]
  refine congrArg _ (hcalm.settle_entered hf ⟨_, _, _, rfl⟩ ?_)
  exact State.feed_of_full _ _ rest next more u rfl rfl howner hnext (by simp [hqueue])

theorem exec_entry_trailer (hp : s.postings = x :: rest) (howner : x.owner = some u) (hcalm : { s with postings := [] }.Calm)
    (hf : s.FoldSettled) (hqueue : s.queue.length = 15) (hsteps : x.steps = [.trailer, .notice])
    (hen : s.ring.enabled = true) (hfull : s.ring.full = false) {contexts : Vector (Option Context) 32}
    (hcontexts : (s.enterEntry (s.trailerEntry u x.poster)).onPosterContext x.poster Context.countEntry
      = { s with queue := s.queue ++ [s.trailerEntry u x.poster], contexts := contexts }) :
    exec .entryEntersQueue s = .next { s with
      queue := s.queue ++ [s.trailerEntry u x.poster]
      contexts := contexts
      postings := { x with steps := [.notice] } :: rest } := by
  have feed := State.feed_more hp hsteps (State.takeStep_trailer howner (by omega))
  rw [hcontexts] at feed
  rw [exec_entryEntersQueue_of_feed hp hsteps nofun feed]
  refine congrArg _ (hcalm.settle_entered hf ⟨_, _, _, rfl⟩ ?_)
  exact State.feed_of_noticeWaiting rfl rfl howner hen hcalm.backlog hfull (by simp [hqueue])

end

/-! ### The end of a fold whose outcome is not final -/

theorem State.leaveFold_of_open {t : State} {i : Fin 32} {c : Context} {o : FoldOutcome} (ho : o.final = false)
    (hc : t.contexts[i] = some c) : t.leaveFold i o = { t with
      contexts := t.contexts.set i (some { c with posting := false, state := if o = .repair then .repairWait else .opened })
      repairQueue := if o = .repair then t.repairQueue ++ [i] else t.repairQueue } := by
  unfold State.leaveFold
  rw [t.modifyContext_of_held i _ c hc]
  cases o with
  | repair => rfl
  | opened => rfl
  | good => cases ho
  | agreed => cases ho
  | exhausted => cases ho

/-- A fold completes with OPEN or REPAIR (R102, R105). -/
theorem State.completeFold_of_open {s : State} {u : UnitId} {i : Fin 32} {c : Context} {o : FoldOutcome} {r : FoldRecord}
    (ho : o.final = false) (hf : s.fold = some r) (hc : s.contexts[i] = some c) : s.completeFold u i o = { s with
      fold := none
      testDue := true
      lanes := s.lanes.set r.pass.lane (s.lanes[r.pass.lane].setBuffer r.pass.buffer .free)
      windows := s.windows.set u.window { s.windows[u.window] with
        counters := { s.windows[u.window].counters with passesFolded := satInc s.windows[u.window].counters.passesFolded } }
      contexts := s.contexts.set i (some { c with posting := false, state := if o = .repair then .repairWait else .opened })
      repairQueue := if o = .repair then s.repairQueue ++ [i] else s.repairQueue } := by
  rw [State.completeFold_eq, s.endFold_of_some r hf]
  exact State.leaveFold_of_open ho hc

/-- Settles O34. -/
theorem entryTakesTheLastPlace : Obligations.EntryTakesTheLastPlace := by
  refine ⟨fun s x rest u i c hp howner hslot hc huid => ?_, fun s pass clean u steps rest hcalm hf hp hqueue => ?_⟩
  · intro p slot flips bits code trailer
    have hflips : c.postedFlips x.poster = flips := Context.postedFlips_eq hslot
    have hcode : byteOf x.poster.verdict.code = code := by
      dsimp only [code]
      cases hx : x.poster with
      | fold j o => cases o <;> rfl
      | raw pass clean => rw [hx] at hslot; cases hslot
      | override r => rw [hx] at hslot; cases hslot
      | backlog => rw [hx] at hslot; cases hslot
      | _ => rfl
    have htrailer : s.trailerEntry u x.poster = trailer := by
      rw [State.trailerEntry_of_slot hslot hc, hflips, verdictWord, hcode]
      rfl
    have counted : ∀ (e : Entry) (f : Context → Context), (s.enterEntry e).onPosterContext x.poster f
        = { s with queue := s.queue ++ [e], contexts := s.contexts.set i (some (f c)) } :=
      fun e f => State.onPosterContext_of_slot (t := s.enterEntry e) hslot hc f
    refine ⟨fun j next more hcalm hf hqueue hsteps hnext => ?_, fun hcalm hf hqueue hsteps hen hfull => ?_,
      fun o r ho hfinal hsteps hfold hroom hh => ?_⟩
    · rw [exec_entry_chunk hp howner hcalm hf hqueue hsteps hnext (counted _ _), State.chunkEntry_of_slot hslot hc, hflips]
      rfl
    · rw [exec_entry_trailer hp howner hcalm hf hqueue hsteps hen hfull (counted _ _), htrailer]
      rfl
    · intro t hstill
      have feed := State.feed_last hp hsteps (State.takeStep_trailer howner hroom)
      have complete : ∀ v, v = { s with
          queue := s.queue ++ [trailer], contexts := s.contexts.set i (some c.countEntry), postings := rest } →
          v.completePosting x = t.dueTest := by
        intro v hv
        have fold : v.fold = some r := by rw [hv]; exact hfold
        have entered : v.contexts[i] = some c.countEntry := by rw [hv]; exact State.setContext_get_self s i _
        unfold State.completePosting
        rw [ho, howner]
        dsimp only
        rw [State.completeFold_of_open hfinal fold entered, hv, Vector.set_set]
        rfl
      rw [counted, htrailer] at feed
      rw [exec_entryEntersQueue_of_feed hp hsteps nofun feed]
      dsimp only
      rw [complete _ rfl, hstill.settle_dueTest hh]
  · intro p slot bits
    refine ⟨fun j next more hsteps hnext => ?_, fun hsteps hen hfull => ?_⟩
    · subst hsteps
      rw [exec_entry_chunk hp rfl hcalm hf hqueue rfl hnext (contexts := s.contexts) rfl]
      rfl
    · subst hsteps
      rw [exec_entry_trailer hp rfl hcalm hf hqueue rfl hen hfull (contexts := s.contexts) rfl]
      cases clean <;> rfl

end Sys2Proof.Machine

/-! The fate of a notice handed over, and the posting that is complete with it (R29, R74, R76, R102, R117, R160, R161). -/

namespace Sys2Proof.Machine

section
variable {s t taken : State} {x : Posting} {rest : List Posting} {u : UnitId} {i : Fin 32} {c : Context} {n : Notice}

/-- A notice accepted changes the queue, the ring and the flags alone. -/
theorem State.acceptNotice_changes (h : s.acceptNotice n = some t) :
    ∃ queue ring flags, t = { s with queue := queue, ring := ring, flags := flags } := by
  unfold State.acceptNotice at h
  cases hf : s.ring.fate with
  | discarded => rw [hf] at h; exact ⟨s.queue, s.ring, s.flags, (Option.some.inj h).symm⟩
  | placed =>
    rw [hf] at h
    dsimp only at h
    rw [Option.ite_none_right_eq_some] at h
    exact ⟨_, _, _, (Option.some.inj h.2).symm⟩
  | backlogged => rw [hf] at h; exact ⟨s.queue, _, s.flags, (Option.some.inj h).symm⟩
  | dropped => rw [hf] at h; exact ⟨s.queue, s.ring, _, (Option.some.inj h).symm⟩

/-- The notice is the last step of its posting. -/
theorem exec_noticeAccepted_of_taken (hp : s.postings = x :: rest) (hsteps : x.steps = [.notice]) (howner : x.owner = some u)
    (h : s.acceptNotice (s.posterNotice u x.poster) = some taken) :
    exec .noticeAccepted s = .next ({ taken with postings := rest }.completePosting x).settle :=
  exec_noticeAccepted_of_feed hp hsteps (State.feed_last hp hsteps ((State.takeStep_notice howner).trans h))

/-! ### What the completion of a posting does -/

/-- The unit table after a context's posting has ended: the slot free when no entry of the context is outstanding. -/
def Context.afterPosting (c : Context) : Option Context :=
  if c.outstanding = 0 then none else some { c with posting := false, state := .draining }

/-- The end of a DRAINING context's posting (R76). -/
theorem State.releaseIfDone_endPosting {f : Context → Context} (hc : s.contexts[i] = some c)
    (hfc : f c = { c with posting := false, state := .draining }) : (s.modifyContext i f).releaseIfDone i = { s with
      contexts := s.contexts.set i c.afterPosting
      freeList := if c.outstanding = 0 then s.freeList ++ c.granules else s.freeList } := by
  have held := State.setContext_get_self s i (some (f c))
  rw [hfc] at held
  rw [s.modifyContext_of_held i f c hc, hfc]
  unfold Context.afterPosting
  by_cases ho : c.outstanding = 0
  · rw [State.releaseIfDone_of_done _ i _ held ((Context.done_iff _).mpr ⟨rfl, rfl, ho⟩), State.release_of_held _ i _ held,
      if_pos ho, if_pos ho]
    simp [State.setContext]
  · rw [State.releaseIfDone_of_not_done _ i _ held (Bool.eq_false_iff.mpr fun hd => ho ((Context.done_iff _).mp hd).2.2),
      if_neg ho, if_neg ho]
    rfl

theorem State.leaveFold_of_final {o : FoldOutcome} (ho : o.final = true) (hc : s.contexts[i] = some c) : s.leaveFold i o
    = { s with
      contexts := s.contexts.set i c.afterPosting
      freeList := if c.outstanding = 0 then s.freeList ++ c.granules else s.freeList } := by
  unfold State.leaveFold
  cases o with
  | good => exact State.releaseIfDone_endPosting hc rfl
  | agreed => exact State.releaseIfDone_endPosting hc rfl
  | exhausted => exact State.releaseIfDone_endPosting hc rfl
  | repair => cases ho
  | opened => cases ho

/-- A fold completes with a final outcome (R102). -/
theorem State.completeFold_of_final {o : FoldOutcome} {r : FoldRecord} (ho : o.final = true) (hf : s.fold = some r)
    (hc : s.contexts[i] = some c) : s.completeFold u i o = { s with
      fold := none
      testDue := true
      lanes := s.lanes.set r.pass.lane (s.lanes[r.pass.lane].setBuffer r.pass.buffer .free)
      windows := s.windows.set u.window { s.windows[u.window] with
        counters := { s.windows[u.window].counters with passesFolded := satInc s.windows[u.window].counters.passesFolded } }
      contexts := s.contexts.set i c.afterPosting
      freeList := if c.outstanding = 0 then s.freeList ++ c.granules else s.freeList } := by
  rw [State.completeFold_eq, s.endFold_of_some r hf]
  exact State.leaveFold_of_final ho hc

end

section
variable {v : State} {x : Posting} {u : UnitId} {i : Fin 32} {c : Context}

theorem State.completePosting_override {r : OverrideRecord} (hx : x.poster = .override r) : v.completePosting x = v.dueTest := by
  unfold State.completePosting
  rw [hx]

theorem State.completePosting_raw {pass : StagedPass} {clean : Bool} {r : FoldRecord} (hx : x.poster = .raw pass clean)
    (hf : v.fold = some r) : v.completePosting x = { v with
      fold := none
      testDue := true
      lanes := v.lanes.set r.pass.lane (v.lanes[r.pass.lane].setBuffer r.pass.buffer .free) } := by
  unfold State.completePosting
  rw [hx]
  dsimp only
  rw [v.endFold_of_some r hf]
  rfl

theorem State.completePosting_fold {o : FoldOutcome} (hx : x.poster = .fold i o) (howner : x.owner = some u) :
    v.completePosting x = (v.completeFold u i o).dueTest := by
  unfold State.completePosting
  rw [hx, howner]

theorem State.completePosting_repair {r : Verdict} (hx : x.poster = .repair i r) (hc : v.contexts[i] = some c)
    (hs : c.state = .draining) : v.completePosting x = { v with
      repair := none
      testDue := true
      contexts := v.contexts.set i c.afterPosting
      freeList := if c.outstanding = 0 then v.freeList ++ c.granules else v.freeList } := by
  unfold State.completePosting
  rw [hx]
  dsimp only
  rw [State.releaseIfDone_endPosting (s := { v with repair := none }) (c := c) hc (by rw [← hs]; rfl)]
  rfl

theorem State.completePosting_drain (hx : x.poster = .drain i) (hc : v.contexts[i] = some c) (hs : c.state = .draining) :
    v.completePosting x = { v with
      testDue := true
      contexts := v.contexts.set i c.afterPosting
      freeList := if c.outstanding = 0 then v.freeList ++ c.granules else v.freeList } := by
  unfold State.completePosting
  rw [hx]
  dsimp only
  rw [State.releaseIfDone_endPosting (c := c) hc (by rw [← hs]; rfl)]
  rfl

end

theorem State.atOnceBacklog_of_full {s : State} (h : s.ring.full = true) : s.atOnceBacklog = none := by
  simp [State.atOnceBacklog, h]

/-! ### The notice of an override in a calm state -/

section
variable {s : State} {r : OverrideRecord} {u : UnitId}

/-- The completed posting of an override leaves nothing to do. -/
theorem State.Calm.exec_overrideNotice (h : { s with postings := [] }.Calm) (hf : s.FoldSettled)
    (hp : s.postings = [⟨.override r, some u, [.notice]⟩]) {queue : List Entry} {ring : Ring} {flags : BitVec 12}
    (hback : { s with ring := ring, postings := [] }.atOnceBacklog = none)
    (htaken : s.acceptNotice ⟨u, .overridden, r.passes, r.weak, [], r.lastRepair, r.clean⟩
      = some { s with queue := queue, ring := ring, flags := flags }) :
    exec .noticeAccepted s = .next { s with postings := [], queue := queue, ring := ring, flags := flags } := by
  have quiet : State.Quiet { s with postings := [], queue := queue, ring := ring, flags := flags } :=
    .of_parts _ h.waiting (by rw [State.repairDue, show State.repairQueue _ = [] from h.repairQueue]; exact Bool.and_false _)
      hf (State.atOnceDrain_of_closing _ h.closing) (State.atOnceBacklog_none_congr hback rfl rfl)
      (State.feed_of_no_posting _ rfl)
  have still : State.Still { s with postings := [], queue := queue, ring := ring, flags := flags } := ⟨quiet, h.waiting, h.testDue⟩
  rw [exec_noticeAccepted_of_taken hp rfl rfl htaken]
  exact congrArg _ (still.settle_dueTest h.holds)

end

/-- Settles O35. -/
theorem noticeFates : Obligations.NoticeFates := by
  refine ⟨fun s n => ⟨s.acceptNotice_discarded n, fun hen hb hfull hroom => ?_, fun hen hb hfull hqueue => ?_,
    s.acceptNotice_backlogged n, s.acceptNotice_dropped n⟩, fun s r u hcalm hf hp => ?_,
    fun s taken x rest u hp hsteps howner hh => ?_⟩
  · rw [s.acceptNotice_placed n hen hb hfull, if_pos (s.queueHasRoom_of_lt hroom)]
    rfl
  · rw [s.acceptNotice_placed n hen hb hfull, if_neg (by rw [s.queueHasRoom_of_full hqueue]; exact Bool.false_ne_true)]
  · have empty : s.ring.backlog = [] := hcalm.backlog
    refine ⟨fun hen => ?_, fun hen hfull hroom => ?_, fun hen hfull => ?_⟩
    · exact hcalm.exec_overrideNotice (queue := s.queue) (ring := s.ring) (flags := s.flags) hf hp
        (State.atOnceBacklog_of_empty _ empty) (s.acceptNotice_discarded _ hen)
    · refine hcalm.exec_overrideNotice hf hp (State.atOnceBacklog_of_empty _ empty) ?_
      rw [s.acceptNotice_placed _ hen empty hfull, if_pos (s.queueHasRoom_of_lt hroom)]
      rfl
    · refine hcalm.exec_overrideNotice (queue := s.queue) (flags := s.flags) hf hp (State.atOnceBacklog_of_full ?_) ?_
      · exact hfull
      · rw [s.acceptNotice_backlogged _ hen (.inr hfull) (by simp [empty]), empty]
        rfl
  · intro idle left freed
    refine ⟨fun r hx h => ?_, fun pass clean r hx hfold h => ?_, fun i o r c hx ho hfold hc h => ?_,
      fun i v c hx hc hs h => ?_, fun i c hx hc hs h => ?_⟩
    · intro t hstill
      obtain ⟨queue, ring, flags, rfl⟩ := State.acceptNotice_changes h
      rw [exec_noticeAccepted_of_taken hp hsteps howner (by rw [hx]; exact h), State.completePosting_override hx]
      exact congrArg _ (hstill.settle_dueTest hh)
    · intro t hstill
      obtain ⟨queue, ring, flags, rfl⟩ := State.acceptNotice_changes h
      rw [exec_noticeAccepted_of_taken hp hsteps howner (by rw [hx]; exact h)]
      refine congrArg _ (Eq.trans ?_ (hstill.settle_dueTest hh))
      exact congrArg _ (State.completePosting_raw hx hfold)
    · intro t hstill
      have notice : s.posterNotice u x.poster = ⟨u, o.verdict, c.passes, c.weak, [], c.lastRepair, c.clean⟩ := by
        rw [hx]
        exact State.posterNotice_of_slot rfl hc
      obtain ⟨queue, ring, flags, rfl⟩ := State.acceptNotice_changes h
      rw [exec_noticeAccepted_of_taken hp hsteps howner (by rw [notice]; exact h), State.completePosting_fold hx howner]
      refine congrArg _ (Eq.trans (congrArg State.settle ?_) (hstill.settle_dueTest hh))
      exact (congrArg State.dueTest (State.completeFold_of_final
        (s := { s with queue := queue, ring := ring, flags := flags, postings := rest }) ho hfold hc)).trans rfl
    · intro t hstill
      have notice : s.posterNotice u x.poster
          = ⟨u, v, c.passes, c.weak, if v = .repaired then c.flips else [], c.lastRepair, c.clean⟩ := by
        rw [hx, State.posterNotice_of_slot rfl hc]
        cases v <;> rfl
      obtain ⟨queue, ring, flags, rfl⟩ := State.acceptNotice_changes h
      rw [exec_noticeAccepted_of_taken hp hsteps howner (by rw [notice]; exact h)]
      refine congrArg _ (Eq.trans ?_ (hstill.settle_dueTest hh))
      exact congrArg _ (State.completePosting_repair hx hc hs)
    · intro t hstill
      have notice : s.posterNotice u x.poster = ⟨u, .unsettled, c.passes, c.weak, [], c.lastRepair, c.clean⟩ := by
        rw [hx]
        exact State.posterNotice_of_slot rfl hc
      obtain ⟨queue, ring, flags, rfl⟩ := State.acceptNotice_changes h
      rw [exec_noticeAccepted_of_taken hp hsteps howner (by rw [notice]; exact h)]
      refine congrArg _ (Eq.trans ?_ (hstill.settle_dueTest hh))
      exact congrArg _ (State.completePosting_drain hx hc hs)

end Sys2Proof.Machine

/-! The repair engine: its take, and the end of SEARCHING (R107, R108, R113 to R117, R123). -/

namespace Sys2Proof.Machine

/-- Settles O36. -/
theorem repairTakeStartsTheSearch : Obligations.RepairTakeStartsTheSearch := by
  intro s i rest c hs hf hr hq hc p cells
  have due : s.repairDue = true := s.repairDue_iff.mpr ⟨hr, by rw [hq]; nofun⟩
  have take := s.repairTake_of_held i rest c hq hc
  have still : s.repairTake.Still := by
    rw [take]
    exact hs.still_of_due rfl (fun _ => rfl) rfl rfl hf (State.feed_of_no_posting _ hs.postings) rfl
  change execRepairTake s = _
  unfold execRepairTake
  rw [if_pos due, still.settle, take]

/-! ### What the search leaves -/

section
variable {s : State} {i : Fin 32} {u : UnitId} {c : Context} {cands : List Nat} {syn : BitVec 32} {examined : Nat}

theorem searchFrom_flips (p : Profile) : ∀ (left size : Nat), (searchFrom p cands syn left size).1 ≠ .found →
    (searchFrom p cands syn left size).2 = []
  | 0, _, _ => rfl
  | left + 1, size, h => by
    unfold searchFrom at h ⊢
    split at h
    · exact searchFrom_flips p left (size + 1) h
    · exact absurd rfl h
    · rfl

/-- Only a FOUND outcome has flips. -/
theorem search_flips {p : Profile} (h : (search p cands syn).1 ≠ .found) : (search p cands syn).2 = [] :=
  searchFrom_flips p p.maxFlips 1 h

theorem mem_flipChunks (p : Profile) (flips : List Nat) (j : Nat) :
    j ∈ flipChunks p flips ↔ j < p.chunkCount ∧ flips.any (fun k => k / 512 == j) = true := by
  unfold flipChunks
  rw [List.mem_filter, List.mem_range]

/-- The dirty chunks at the end of a search from none: the chunks of the flips (R116). -/
theorem dirtyChunks_of_nil (p : Profile) (flips : List Nat) :
    (List.range p.chunkCount).filter (fun j => ([] : List Nat).contains j || (flipChunks p flips).contains j)
      = flipChunks p flips := by
  refine List.filter_congr fun j hj => ?_
  rw [Bool.eq_iff_iff, List.contains_nil, Bool.false_or, List.contains_iff_mem, mem_flipChunks]
  exact and_iff_right (List.mem_range.mp hj)

/-- The context at the end of a search, its outcome recorded (R113, R116). -/
def Context.searched (c : Context) (p : Profile) (outcome : RepairOutcome) (flips : List Nat) : Context :=
  { c with lastRepair := outcome, flips := flips, dirty := flipChunks p flips }

theorem flipChunks_nil (p : Profile) : flipChunks p [] = [] := by
  simp [flipChunks]

/-- Without flips the end of a search leaves no chunk dirty that was not. -/
theorem Context.searched_nil (hd : c.dirty = []) (p : Profile) (outcome : RepairOutcome) :
    c.searched p outcome [] = { c with lastRepair := outcome, flips := [] } := by
  rw [Context.searched, flipChunks_nil, ← hd]

theorem State.endSearch_of_final (hd : c.dirty = []) {v : Verdict}
    (hv : repairResult (s.profile c.uid.window) (search (s.profile c.uid.window) cands syn).1 c.passes
      (s.windows[c.uid.window].state == .closing) = some v) : s.endSearch i c cands syn
    = s.finishRepair i (c.searched (s.profile c.uid.window) (search (s.profile c.uid.window) cands syn).1
      (search (s.profile c.uid.window) cands syn).2) v := by
  unfold State.endSearch
  dsimp only
  rw [hv, hd, dirtyChunks_of_nil]
  rfl

theorem State.endSearch_of_open (hd : c.dirty = [])
    (hv : repairResult (s.profile c.uid.window) (search (s.profile c.uid.window) cands syn).1 c.passes
      (s.windows[c.uid.window].state == .closing) = none) : s.endSearch i c cands syn
    = { s with
      contexts := s.contexts.set i (some { c.searched (s.profile c.uid.window) (search (s.profile c.uid.window) cands syn).1
        (search (s.profile c.uid.window) cands syn).2 with state := .opened })
      repair := none } := by
  unfold State.endSearch
  dsimp only
  rw [hv, hd, dirtyChunks_of_nil]
  rfl

theorem exec_endOfSearching_of_searching (hr : s.repair = some ⟨i, u, .searching cands syn examined⟩)
    (hc : s.contexts[i] = some c) : exec .endOfSearching s = .next (s.endSearch i c cands syn).settle := by
  change execEndOfSearching s = _
  unfold execEndOfSearching
  rw [hr]
  dsimp only
  rw [hc]

/-! ### The posting of a repair -/

theorem repairSteps_front (v : Verdict) (dirty : List Nat) : ∃ x xs, repairSteps v dirty = x :: xs ∧ x ≠ .notice := by
  unfold repairSteps
  split
  · cases dirty with
    | nil => exact ⟨.trailer, [.notice], rfl, nofun⟩
    | cons j js => exact ⟨_, _, rfl, nofun⟩
  · exact ⟨.trailer, [.notice], rfl, nofun⟩

theorem State.finishRepair_feed (hp : s.postings = []) (hq : s.queue.length = 16) (v : Verdict) :
    (s.finishRepair i c v).feed = none := by
  obtain ⟨x, xs, hsteps, hx⟩ := repairSteps_front v c.dirty
  rw [s.finishRepair_eq, hp]
  exact State.feed_of_full _ _ [] x xs c.uid rfl hsteps rfl hx (Nat.le_of_eq hq.symm)

theorem State.finishRepair_state (v : Verdict) (w : Fin 8) : (s.finishRepair i c v).windows[w].state = s.windows[w].state := by
  rw [s.finishRepair_eq]
  refine windows_set_state s.windows c.uid.window _ ?_ w
  rfl

theorem State.Calm.finishRepair (h : s.Calm) (hf : s.FoldSettled) (hq : s.queue.length = 16) (v : Verdict) :
    (s.finishRepair i c v).Still :=
  h.still_of_due (by rw [s.finishRepair_eq]) (State.finishRepair_state v) (by rw [s.finishRepair_eq])
    (by rw [s.finishRepair_eq]; rfl) (by rw [s.finishRepair_eq]; exact hf) (State.finishRepair_feed h.postings hq v)
    (by rw [s.finishRepair_eq])

end

/-- Settles O37. -/
theorem endOfSearchingDecides : Obligations.EndOfSearchingDecides := by
  intro s i u c cands syn examined hs hf hr hc hd p found window
  have closing : (s.windows[c.uid.window].state == .closing) = false := beq_false_of_ne (hs.closing _)
  refine ⟨fun hnot hbelow => ?_, fun hnot hlimit hqueue => ?_, fun hfound hqueue => ?_⟩
  · have result : repairResult p found.1 c.passes (s.windows[c.uid.window].state == .closing) = none := by
      rw [repairResult, if_neg hnot, if_neg (Nat.not_le.mpr hbelow), closing]
      rfl
    have ended := State.endSearch_of_open (i := i) hd result
    rw [search_flips hnot, Context.searched_nil hd] at ended
    have still : (s.endSearch i c cands syn).Still := by
      rw [ended]
      exact hs.still_of rfl (fun _ => rfl) rfl hs.repairQueue hf (State.feed_of_no_posting _ hs.postings) rfl
    rw [exec_endOfSearching_of_searching hr hc, still.settle, ended]
  · have result : repairResult p found.1 c.passes (s.windows[c.uid.window].state == .closing) = some .exhausted := by
      rw [repairResult, if_neg hnot, if_pos hlimit]
    rw [exec_endOfSearching_of_searching hr hc, State.endSearch_of_final hd result, search_flips hnot,
      Context.searched_nil hd, (hs.finishRepair hf hqueue _).settle, s.finishRepair_eq, hs.postings]
    rfl
  · have result : repairResult p found.1 c.passes (s.windows[c.uid.window].state == .closing) = some .repaired := by
      rw [repairResult, if_pos hfound]
    rw [exec_endOfSearching_of_searching hr hc, State.endSearch_of_final hd result, (hs.finishRepair hf hqueue _).settle,
      s.finishRepair_eq, hs.postings, ← hfound]
    rfl

/-! ### A search that ends in a CLOSING window -/

/-- A backlog posting begins by the ring and by the backlog posting in progress alone. -/
theorem State.atOnceBacklog_none_of_moving {s t : State} (h : s.atOnceBacklog = none) (hr : t.ring = s.ring)
    (hm : t.movingBacklog = s.movingBacklog) : t.atOnceBacklog = none := by
  unfold State.atOnceBacklog at h ⊢
  rw [hr, hm]
  split
  · next hd => rw [if_pos hd] at h; cases h
  · rfl

theorem State.Still.finishRepair {s : State} {i : Fin 32} {c d : Context} (h : s.Still) (hp : s.postings = [])
    (hq : s.queue.length = 16) (hc : s.contexts[i] = some c) (hu : d.uid = c.uid) (v : Verdict) :
    (s.finishRepair i d v).Still := by
  have eq := s.finishRepair_eq i d v
  have waiting : ∀ a ∈ (s.finishRepair i d v).active, a.waiting = [] := by rw [eq]; exact h.waiting
  have quiet : ∀ w, (s.finishRepair i d v).passQuiet w = s.passQuiet w := fun w => by rw [eq]; rfl
  have drain : (s.finishRepair i d v).atOnceDrain = none :=
    State.atOnceDrain_setContext (d := { d with state := .draining, posting := true }) h.parts.2.2.1 hc hu nofun
      (by rw [eq]) (State.finishRepair_state v) quiet
  have backlog : (s.finishRepair i d v).atOnceBacklog = none := by
    refine State.atOnceBacklog_none_of_moving h.parts.2.2.2.1 (by rw [eq]) ?_
    rw [eq, State.movingBacklog, State.movingBacklog, hp]
    rfl
  exact ⟨.of_parts _ waiting (by rw [eq]; rfl) (by rw [eq]; exact h.parts.2.1) drain backlog
    (State.finishRepair_feed hp hq v), waiting, by rw [eq]; exact h.testDue⟩

/-- Settles O38. -/
theorem endOfSearchingInAClosingWindow : Obligations.EndOfSearchingInAClosingWindow := by
  intro s i u c cands syn examined hs hh hp hqueue hr hc hd hclosing p found window hnot hbelow
  have result : repairResult p found.1 c.passes (s.windows[c.uid.window].state == .closing) = some .unsettled := by
    rw [repairResult, if_neg hnot, if_neg (Nat.not_le.mpr hbelow), hclosing]
    rfl
  rw [exec_endOfSearching_of_searching hr hc, State.endSearch_of_final hd result, search_flips hnot, Context.searched_nil hd,
    (hs.finishRepair (d := { c with lastRepair := found.1, flips := [] }) hp hqueue hc rfl _).settle, s.finishRepair_eq, hp]
  rfl

end Sys2Proof.Machine

/-! Check values and contributions (R84, R110), and what a flip of one tallied bit does to the syndrome (R92, R116). -/

namespace Sys2Proof.Machine

/-! ### The register is linear -/

section
variable {w : Nat} (poly : BitVec w)

theorem crcReg_cons (reg : BitVec w) (b : Bool) (bs : List Bool) :
    crcReg poly reg (b :: bs) = crcReg poly (crcShift poly reg (reg.msb ^^ b)) bs := by
  rw [crcReg]
  cases reg.msb ^^ b <;> rfl

theorem crcShift_xor (r₁ r₂ : BitVec w) (f₁ f₂ : Bool) :
    crcShift poly (r₁ ^^^ r₂) (f₁ ^^ f₂) = crcShift poly r₁ f₁ ^^^ crcShift poly r₂ f₂ := by
  have cancel : ∀ x y : BitVec w, x ^^^ poly ^^^ (y ^^^ poly) = x ^^^ y := fun x y => by
    rw [BitVec.xor_assoc, BitVec.xor_comm y poly, ← BitVec.xor_assoc poly, BitVec.xor_self, BitVec.zero_xor]
  unfold crcShift
  rw [BitVec.shiftLeft_xor_distrib]
  cases f₁ with
  | false =>
    cases f₂ with
    | false => rfl
    | true => exact BitVec.xor_assoc _ _ _
  | true =>
    cases f₂ with
    | false =>
      change r₁ <<< 1 ^^^ r₂ <<< 1 ^^^ poly = r₁ <<< 1 ^^^ poly ^^^ r₂ <<< 1
      rw [BitVec.xor_assoc, BitVec.xor_comm (r₂ <<< 1), BitVec.xor_assoc]
    | true => exact (cancel _ _).symm

theorem crcReg_xor : ∀ (x y : List Bool) (r₁ r₂ : BitVec w), x.length = y.length →
    crcReg poly (r₁ ^^^ r₂) (List.zipWith Bool.xor x y) = crcReg poly r₁ x ^^^ crcReg poly r₂ y
  | [], [], _, _, _ => rfl
  | a :: x, b :: y, r₁, r₂, h => by
    have feedback : ((r₁ ^^^ r₂).msb ^^ (a ^^ b)) = ((r₁.msb ^^ a) ^^ (r₂.msb ^^ b)) := by
      rw [BitVec.msb_xor]
      cases r₁.msb <;> cases r₂.msb <;> cases a <;> cases b <;> rfl
    rw [List.zipWith_cons_cons, crcReg_cons, crcReg_cons, crcReg_cons, feedback, crcShift_xor,
      crcReg_xor x y _ _ (Nat.succ_injective h)]

theorem crcReg_append : ∀ (x y : List Bool) (reg : BitVec w), crcReg poly reg (x ++ y) = crcReg poly (crcReg poly reg x) y
  | [], _, _ => rfl
  | a :: x, y, reg => by rw [List.cons_append, crcReg_cons, crcReg_cons, crcReg_append x y]

/-- Data bits of 0 step the register. -/
theorem crcReg_zeros : ∀ (n : Nat) (reg : BitVec w), crcReg poly reg (List.replicate n false) = crcZeros poly n reg
  | 0, _ => rfl
  | n + 1, reg => by
    rw [List.replicate_succ, crcReg_cons, Bool.xor_false, crcReg_zeros n, crcZeros]
    cases reg.msb <;> rfl

theorem crcReg_zero_zeros : ∀ n : Nat, crcReg poly 0#w (List.replicate n false) = 0#w
  | 0 => rfl
  | n + 1 => by
    have shift : crcShift poly 0#w ((0#w).msb ^^ false) = 0#w := by
      rw [BitVec.msb_zero]
      exact BitVec.zero_shiftLeft 1
    rw [List.replicate_succ, crcReg_cons, shift, crcReg_zero_zeros n]

/-- The check of a message that is zero except for one bit, from preset 0. -/
theorem crcReg_oneBit (k m : Nat) : crcReg poly 0#w (List.replicate k false ++ true :: List.replicate m false) = crcZeros poly m poly := by
  have shift : crcShift poly 0#w ((0#w).msb ^^ true) = poly := by
    rw [BitVec.msb_zero]
    exact (congrArg (· ^^^ poly) (BitVec.zero_shiftLeft 1)).trans (BitVec.zero_xor)
  rw [crcReg_append, crcReg_zero_zeros, crcReg_cons, shift, crcReg_zeros]

end

/-- Settles O40. -/
theorem checkIsLinear : Obligations.CheckIsLinear := by
  intro kind preset x y h
  unfold checkValue
  cases kind with
  | none => exact (BitVec.xor_self).symm
  | crc16 =>
    have := crcReg_xor poly16 x y (preset.setWidth 16) 0#16 h
    rw [BitVec.xor_zero] at this
    dsimp only
    rw [this, BitVec.setWidth_xor]
    rfl
  | crc32 =>
    have := crcReg_xor poly32 x y preset 0#32 h
    rw [BitVec.xor_zero] at this
    exact this

/-! ### Flips -/

theorem flipFrom_append (flips : List Nat) : ∀ (i : Nat) (x y : List Bool),
    flipFrom flips i (x ++ y) = flipFrom flips i x ++ flipFrom flips (i + x.length) y
  | _, [], _ => rfl
  | i, b :: x, y => by
    rw [List.cons_append, flipFrom, flipFrom_append flips (i + 1) x y, flipFrom, List.length_cons,
      show i + 1 + x.length = i + (x.length + 1) by omega]
    rfl

theorem flipFrom_length (flips : List Nat) : ∀ (i : Nat) (x : List Bool), (flipFrom flips i x).length = x.length
  | _, [] => rfl
  | i, b :: x => by rw [flipFrom, List.length_cons, flipFrom_length flips (i + 1) x, List.length_cons]

/-- Positions without a flip stand. -/
theorem flipFrom_eq_self (flips : List Nat) : ∀ (i : Nat) (x : List Bool), (∀ k ∈ flips, k < i ∨ i + x.length ≤ k) →
    flipFrom flips i x = x
  | _, [], _ => rfl
  | i, b :: x, h => by
    have here : flips.contains i = false := by
      rw [Bool.eq_false_iff, ne_eq, List.contains_iff_mem]
      intro hi
      have := h i hi
      rw [List.length_cons] at this
      omega
    rw [flipFrom, here, flipFrom_eq_self flips (i + 1) x fun k hk => ?_]
    · rfl
    · have := h k hk
      have hne : k ≠ i := by
        rintro rfl
        rw [List.contains_iff_mem.mpr hk] at here
        cases here
      rw [List.length_cons] at this
      omega

/-- Only which positions are listed counts. -/
theorem flipFrom_congr {flips other : List Nat} (h : ∀ k, k ∈ flips ↔ k ∈ other) : ∀ (i : Nat) (x : List Bool),
    flipFrom flips i x = flipFrom other i x
  | _, [] => rfl
  | i, b :: x => by
    have here : flips.contains i = other.contains i := by
      rw [Bool.eq_iff_iff, List.contains_iff_mem, List.contains_iff_mem, h]
    rw [flipFrom, flipFrom, here, flipFrom_congr h (i + 1) x]

/-- Flips of different positions, one after the other. -/
theorem flipFrom_cons (k : Nat) (ks : List Nat) (hk : k ∉ ks) : ∀ (i : Nat) (x : List Bool),
    flipFrom (k :: ks) i x = flipFrom [k] i (flipFrom ks i x)
  | _, [] => rfl
  | i, b :: x => by
    rw [flipFrom, flipFrom, flipFrom, flipFrom_cons k ks hk (i + 1) x]
    by_cases hi : i = k
    · subst hi
      have : ks.contains i = false := by rw [Bool.eq_false_iff, ne_eq, List.contains_iff_mem]; exact hk
      simp [hk]
    · by_cases hm : i ∈ ks <;> simp [hi, hm]

theorem flipFrom_shift (k n : Nat) : ∀ (i : Nat) (x : List Bool), flipFrom [n + k] (n + i) x = flipFrom [k] i x
  | _, [] => rfl
  | i, b :: x => by
    have here : [n + k].contains (n + i) = [k].contains i := by
      rw [Bool.eq_iff_iff, List.contains_iff_mem, List.contains_iff_mem, List.mem_singleton, List.mem_singleton]
      omega
    rw [flipFrom, flipFrom, here, show n + i + 1 = n + (i + 1) by omega, flipFrom_shift k n (i + 1) x]

/-- One flip is the combination with a message that is zero except at it. -/
theorem flipFrom_eq_zipWith (flips : List Nat) : ∀ (i : Nat) (x : List Bool),
    flipFrom flips i x = List.zipWith Bool.xor x (flipFrom flips i (List.replicate x.length false))
  | _, [] => rfl
  | i, b :: x => by
    rw [flipFrom, List.length_cons, List.replicate_succ, flipFrom, List.zipWith_cons_cons, ← flipFrom_eq_zipWith flips (i + 1) x]
    cases flips.contains i <;> cases b <;> rfl

/-- A message that is zero except at one position. -/
theorem flipFrom_zeros {k n : Nat} (h : k < n) : flipFrom [k] 0 (List.replicate n false)
    = List.replicate k false ++ true :: List.replicate (n - 1 - k) false := by
  have split : List.replicate n false = List.replicate k false ++ false :: List.replicate (n - 1 - k) false := by
    rw [← List.replicate_succ, List.replicate_append_replicate]
    congr 1
    omega
  rw [split, flipFrom_append, flipFrom_eq_self [k] 0 (List.replicate k false) (by simp), flipFrom, List.length_replicate,
    Nat.zero_add, flipFrom_eq_self [k] (k + 1) _ (by simp)]
  simp

/-! ### Contributions -/

theorem contribution_of_data {p : Profile} (hkind : p.checkKind ≠ .none) {k : Nat} (hk : k < 8 * p.dataSize) :
    contribution p k = checkValue p.checkKind 0 (flipFrom [k] 0 (List.replicate (8 * p.dataSize) false)) := by
  rw [flipFrom_zeros hk, contribution, if_pos hk]
  unfold checkValue
  cases hkd : p.checkKind with
  | none => exact absurd hkd hkind
  | crc16 =>
    dsimp only
    rw [show BitVec.setWidth 16 (0 : BitVec 32) = 0#16 from rfl, crcReg_oneBit]
  | crc32 => exact (crcReg_oneBit poly32 k _).symm

theorem contribution_of_check (p : Profile) (j : Nat) :
    contribution p (8 * p.dataSize + j) = 1 <<< (8 * p.checkWidth - 1 - j) := by
  rw [contribution, if_neg (Nat.not_lt.mpr (Nat.le_add_right _ _)), Nat.add_sub_cancel_left]

/-- Settles O39. -/
theorem contributionIsTheCheckOfOneBit : Obligations.ContributionIsTheCheckOfOneBit :=
  fun p hkind => ⟨fun _ hk => contribution_of_data hkind hk, fun j _ => contribution_of_check p j⟩

/-! ### Words of bits -/

/-- The number of the bits read so far, with one bit more. -/
def pushBit (acc : BitVec 32) (b : Bool) : BitVec 32 := (acc <<< 1) ||| (if b then 1 else 0)

theorem pushBit_xor (x y : BitVec 32) (a b : Bool) : pushBit (x ^^^ y) (a ^^ b) = pushBit x a ^^^ pushBit y b := by
  refine BitVec.eq_of_getLsbD_eq fun i hi => ?_
  unfold pushBit
  cases i with
  | zero => cases a <;> cases b <;> simp
  | succ i => cases a <;> cases b <;> simp [hi]

theorem foldl_pushBit_xor : ∀ (x y : List Bool) (m n : BitVec 32), x.length = y.length →
    (List.zipWith Bool.xor x y).foldl pushBit (m ^^^ n) = x.foldl pushBit m ^^^ y.foldl pushBit n
  | [], [], _, _, _ => rfl
  | a :: x, b :: y, m, n, h => by
    rw [List.zipWith_cons_cons, List.foldl_cons, List.foldl_cons, List.foldl_cons, pushBit_xor,
      foldl_pushBit_xor x y _ _ (Nat.succ_injective h)]

theorem foldl_pushBit_zeros : ∀ (n : Nat) (acc : BitVec 32), (List.replicate n false).foldl pushBit acc = acc <<< n
  | 0, acc => (BitVec.shiftLeft_zero acc).symm
  | n + 1, acc => by
    have push : pushBit acc false = acc <<< 1 := BitVec.or_zero
    rw [List.replicate_succ, List.foldl_cons, foldl_pushBit_zeros n, push, ← BitVec.shiftLeft_add, Nat.add_comm]

theorem wordOfBits_oneBit (k m : Nat) :
    wordOfBits (List.replicate k false ++ true :: List.replicate m false) = ((1 <<< m : Nat) : BitVec 32) := by
  have one : pushBit (0#32) true = 1#32 := rfl
  have shifted : (1#32) <<< m = ((1 <<< m : Nat) : BitVec 32) := BitVec.eq_of_toNat_eq (by simp)
  change List.foldl pushBit 0#32 _ = _
  rw [List.foldl_append, foldl_pushBit_zeros, List.foldl_cons, foldl_pushBit_zeros, BitVec.zero_shiftLeft, one, shifted]

/-- A flip of one bit of a word. -/
theorem wordOfBits_flip {k : Nat} {x : List Bool} (h : k < x.length) :
    wordOfBits (flipFrom [k] 0 x) = wordOfBits x ^^^ ((1 <<< (x.length - 1 - k) : Nat) : BitVec 32) := by
  have linear := foldl_pushBit_xor x (List.replicate k false ++ true :: List.replicate (x.length - 1 - k) false) 0#32 0#32
    (by simp; omega)
  rw [BitVec.xor_zero] at linear
  rw [flipFrom_eq_zipWith, flipFrom_zeros h, ← wordOfBits_oneBit k (x.length - 1 - k)]
  exact linear

/-! ### The syndrome after flips -/

theorem flipFrom_take (flips : List Nat) : ∀ (n i : Nat) (x : List Bool),
    (flipFrom flips i x).take n = flipFrom flips i (x.take n)
  | 0, _, x => by cases x <;> rfl
  | _ + 1, _, [] => rfl
  | n + 1, i, b :: x => by rw [flipFrom, List.take_succ_cons, flipFrom_take flips n (i + 1) x, List.take_succ_cons, flipFrom]

theorem flipFrom_drop (flips : List Nat) : ∀ (n i : Nat) (x : List Bool),
    (flipFrom flips i x).drop n = flipFrom flips (i + n) (x.drop n)
  | 0, _, _ => rfl
  | _ + 1, _, [] => rfl
  | n + 1, i, b :: x => by
    rw [flipFrom, List.drop_succ_cons, flipFrom_drop flips n (i + 1) x, List.drop_succ_cons,
      show i + 1 + n = i + (n + 1) by omega]

/-- A flip of one tallied bit changes the syndrome by the bit's contribution (R110). -/
theorem syndrome_flip {p : Profile} (hkind : p.checkKind ≠ .none) {bits : List Bool} (hlen : bits.length = p.tallied) {k : Nat}
    (hk : k < p.tallied) : syndrome p (flipFrom [k] 0 bits) = syndrome p bits ^^^ contribution p k := by
  have tallied : p.tallied = 8 * p.dataSize + 8 * p.checkWidth := Nat.mul_add 8 _ _
  have data : dataBits p (flipFrom [k] 0 bits) = flipFrom [k] 0 (dataBits p bits) := flipFrom_take _ _ _ _
  have check : checkBits p (flipFrom [k] 0 bits) = flipFrom [k] (8 * p.dataSize) (checkBits p bits) := by
    rw [checkBits, flipFrom_drop, Nat.zero_add]
    rfl
  have dataLength : (dataBits p bits).length = 8 * p.dataSize := by
    rw [dataBits, List.length_take, hlen, tallied]
    omega
  have checkLength : (checkBits p bits).length = 8 * p.checkWidth := by
    rw [checkBits, List.length_drop, hlen, tallied]
    omega
  unfold syndrome
  rw [data, check]
  rcases Nat.lt_or_ge k (8 * p.dataSize) with hdata | hcheck
  · rw [flipFrom_eq_self [k] (8 * p.dataSize) _ fun j hj => by rw [List.mem_singleton.mp hj]; omega, flipFrom_eq_zipWith,
      checkIsLinear _ _ _ _ (by rw [flipFrom_length, List.length_replicate]), dataLength, ← contribution_of_data hkind hdata,
      BitVec.xor_assoc, BitVec.xor_comm (contribution p k), BitVec.xor_assoc]
  · obtain ⟨j, rfl⟩ := Nat.exists_eq_add_of_le hcheck
    have shift := flipFrom_shift j (8 * p.dataSize) 0 (checkBits p bits)
    rw [Nat.add_zero] at shift
    rw [flipFrom_eq_self [8 * p.dataSize + j] 0 (dataBits p bits) fun i hi => by
      rw [List.mem_singleton.mp hi, dataLength]; omega, shift, wordOfBits_flip (by omega), checkLength, contribution_of_check,
      BitVec.xor_assoc]

/-- The flips of several tallied bits change the syndrome by their contributions together. -/
theorem syndrome_flips {p : Profile} (hkind : p.checkKind ≠ .none) {bits : List Bool} (hlen : bits.length = p.tallied) :
    ∀ ks : List Nat, ks.Nodup → (∀ k ∈ ks, k < p.tallied) →
      syndrome p (flipFrom ks 0 bits) = (ks.map (contribution p)).foldr (fun x acc => acc ^^^ x) (syndrome p bits)
  | [], _, _ => by rw [flipFrom_eq_self [] 0 bits (fun _ h => by cases h)]; rfl
  | k :: ks, hnd, hks => by
    obtain ⟨hk, hnd⟩ := List.nodup_cons.mp hnd
    obtain ⟨hkt, hks⟩ := List.forall_mem_cons.mp hks
    rw [flipFrom_cons k ks hk, syndrome_flip hkind (by rw [flipFrom_length, hlen]) hkt, syndrome_flips hkind hlen ks hnd hks]
    rfl

end Sys2Proof.Machine

/-! The repair search (R110 to R112), and what a FOUND outcome is for (R116). -/

namespace Sys2Proof.Machine

/-! ### Subsets of a size -/

theorem mem_subsetsOf {α : Type} : ∀ (n : Nat) (l sub : List α), sub ∈ subsetsOf n l ↔ sub.Sublist l ∧ sub.length = n
  | 0, l, sub => by
    rw [subsetsOf, List.mem_singleton]
    constructor
    · rintro rfl
      exact ⟨List.nil_sublist l, rfl⟩
    · exact fun h => List.eq_nil_of_length_eq_zero h.2
  | n + 1, [], sub => by
    rw [subsetsOf]
    refine iff_of_false List.not_mem_nil fun ⟨hs, hl⟩ => ?_
    rw [List.eq_nil_of_sublist_nil hs] at hl
    cases hl
  | n + 1, x :: xs, sub => by
    rw [subsetsOf, List.mem_append, List.mem_map, mem_subsetsOf (n + 1) xs sub, List.sublist_cons_iff]
    constructor
    · rintro (⟨r, hr, rfl⟩ | ⟨hs, hl⟩)
      · obtain ⟨hs, hl⟩ := (mem_subsetsOf n xs r).mp hr
        exact ⟨.inr ⟨r, rfl, hs⟩, by rw [List.length_cons, hl]⟩
      · exact ⟨.inl hs, hl⟩
    · rintro ⟨hs | ⟨r, rfl, hs⟩, hl⟩
      · exact .inr ⟨hs, hl⟩
      · exact .inl ⟨r, (mem_subsetsOf n xs r).mpr ⟨hs, Nat.succ_injective hl⟩, rfl⟩

theorem subsetsOf_nodup {α : Type} : ∀ (n : Nat) (l : List α), l.Nodup → (subsetsOf n l).Nodup
  | 0, _, _ => by rw [subsetsOf]; exact List.nodup_singleton _
  | n + 1, [], _ => List.nodup_nil
  | n + 1, x :: xs, h => by
    obtain ⟨hx, hxs⟩ := List.nodup_cons.mp h
    rw [subsetsOf]
    refine List.Nodup.append ((subsetsOf_nodup n xs hxs).map fun _ _ e => (List.cons.inj e).2) (subsetsOf_nodup (n + 1) xs hxs) ?_
    intro sub hsub hother
    obtain ⟨r, -, rfl⟩ := List.mem_map.mp hsub
    exact hx (((mem_subsetsOf (n + 1) xs _).mp hother).1.subset List.mem_cons_self)

theorem subsetsOf_map {α β : Type} (f : α → β) : ∀ (n : Nat) (l : List α), subsetsOf n (l.map f) = (subsetsOf n l).map (List.map f)
  | 0, _ => by rw [subsetsOf, subsetsOf]; rfl
  | _ + 1, [] => rfl
  | n + 1, x :: xs => by
    rw [List.map_cons, subsetsOf, subsetsOf, subsetsOf_map f n xs, subsetsOf_map f (n + 1) xs, List.map_append, List.map_map,
      List.map_map]
    rfl

/-! ### Matches -/

section
variable (p : Profile) (cands : List Nat) (s : BitVec 32)

/-- The matches of a size are the subsets of that size whose contributions together are the syndrome. -/
theorem matchesOf_eq (size : Nat) :
    matchesOf p cands s size = (subsetsOf size cands).filter (fun sub => decide (combined p sub = s)) := by
  have folded : ∀ sub : List Nat, (sub.map (fun c => (c, contribution p c))).foldl (fun acc x => acc ^^^ x.2) 0 = combined p sub :=
    fun sub => by rw [combined, List.foldl_map, List.foldl_map]
  have back : ∀ sub : List Nat, (sub.map (fun c => (c, contribution p c))).map Prod.fst = sub := fun sub => by
    rw [List.map_map]
    exact List.map_id sub
  unfold matchesOf
  rw [subsetsOf_map, List.filterMap_map, ← List.filterMap_eq_filter]
  refine List.filterMap_congr fun sub _ => ?_
  simp only [Function.comp_apply, folded, back, Option.guard, decide_eq_true_eq]

theorem mem_matchesOf (size : Nat) (sub : List Nat) : sub ∈ matchesOf p cands s size ↔
    sub.Sublist cands ∧ sub.length = size ∧ combined p sub = s := by
  rw [matchesOf_eq, List.mem_filter, mem_subsetsOf, decide_eq_true_eq, and_assoc]

theorem matchesOf_nodup (h : cands.Nodup) (size : Nat) : (matchesOf p cands s size).Nodup := by
  rw [matchesOf_eq]
  exact (subsetsOf_nodup size cands h).filter _

/-! ### The search -/

/-- A subset of a size from `lo` on that matches. -/
structure Matches (lo : Nat) (sub : List Nat) : Prop where
  sublist : sub.Sublist cands
  size : lo ≤ sub.length
  combined : Machine.combined p sub = s

/-- What an outcome says of the matches from size `lo` on, `left` sizes examined at most (R112). -/
def OutcomeFits (left lo : Nat) (outcome : RepairOutcome × List Nat) : Prop :=
  (∃ sub, outcome = (.found, sortAsc sub) ∧ Matches p cands s lo sub ∧ sub.length < lo + left
      ∧ ∀ other, Matches p cands s lo other → other.length ≤ sub.length → other = sub)
  ∨ (outcome = (.ambiguous, []) ∧ ∃ sub other, sub ≠ other ∧ Matches p cands s lo sub ∧ Matches p cands s lo other
      ∧ sub.length = other.length ∧ sub.length < lo + left
      ∧ ∀ small, Matches p cands s lo small → sub.length ≤ small.length)
  ∨ (outcome = (.nomatch, []) ∧ ∀ sub, Matches p cands s lo sub → lo + left ≤ sub.length)

variable {p cands s}

theorem Matches.mem {lo : Nat} {sub : List Nat} (h : Matches p cands s lo sub) (hl : sub.length = lo) :
    sub ∈ matchesOf p cands s lo := (mem_matchesOf p cands s lo sub).mpr ⟨h.sublist, hl, h.combined⟩

theorem Matches.of_mem {lo : Nat} {sub : List Nat} (h : sub ∈ matchesOf p cands s lo) :
    Matches p cands s lo sub ∧ sub.length = lo := by
  obtain ⟨hs, hl, hc⟩ := (mem_matchesOf p cands s lo sub).mp h
  exact ⟨⟨hs, hl.ge, hc⟩, hl⟩

theorem Matches.next {lo : Nat} {sub : List Nat} (h : Matches p cands s lo sub) (hempty : matchesOf p cands s lo = []) :
    Matches p cands s (lo + 1) sub := by
  refine ⟨h.sublist, Nat.lt_of_le_of_ne h.size fun e => ?_, h.combined⟩
  have := h.mem e.symm
  rw [hempty] at this
  cases this

theorem Matches.weaken {lo : Nat} {sub : List Nat} (h : Matches p cands s (lo + 1) sub) : Matches p cands s lo sub :=
  ⟨h.sublist, Nat.le_of_succ_le h.size, h.combined⟩

theorem OutcomeFits.next {left lo : Nat} {outcome : RepairOutcome × List Nat} (h : OutcomeFits p cands s left (lo + 1) outcome)
    (hempty : matchesOf p cands s lo = []) : OutcomeFits p cands s (left + 1) lo outcome := by
  rcases h with ⟨sub, ho, hm, hl, honly⟩ | ⟨ho, sub, other, hne, hm, hm', heq, hl, hleast⟩ | ⟨ho, hnone⟩
  · exact .inl ⟨sub, ho, hm.weaken, by omega, fun x hx => honly x (hx.next hempty)⟩
  · exact .inr (.inl ⟨ho, sub, other, hne, hm.weaken, hm'.weaken, heq, by omega, fun x hx => hleast x (hx.next hempty)⟩)
  · exact .inr (.inr ⟨ho, fun x hx => by have := hnone x (hx.next hempty); omega⟩)

theorem searchFrom_fits (hnd : cands.Nodup) : ∀ left lo : Nat, OutcomeFits p cands s left lo (searchFrom p cands s left lo)
  | 0, lo => .inr (.inr ⟨rfl, fun _ h => h.size⟩)
  | left + 1, lo => by
    unfold searchFrom
    cases hm : matchesOf p cands s lo with
    | nil => exact (searchFrom_fits hnd left (lo + 1)).next hm
    | cons sub rest =>
      have hsub := Matches.of_mem (p := p) (cands := cands) (s := s) (lo := lo) (sub := sub) (by rw [hm]; exact List.mem_cons_self)
      cases rest with
      | nil =>
        refine .inl ⟨sub, rfl, hsub.1, by omega, fun other ho hl => ?_⟩
        have := ho.mem (le_antisymm (hl.trans_eq hsub.2) ho.size)
        rw [hm] at this
        exact List.mem_singleton.mp this
      | cons other more =>
        have hother := Matches.of_mem (p := p) (cands := cands) (s := s) (lo := lo) (sub := other)
          (by rw [hm]; exact List.mem_cons_of_mem _ List.mem_cons_self)
        have hne : sub ≠ other := by
          have := matchesOf_nodup p cands s hnd lo
          rw [hm, List.nodup_cons] at this
          rintro rfl
          exact this.1 List.mem_cons_self
        exact .inr (.inl ⟨rfl, sub, other, hne, hsub.1, hother.1, by omega, by omega, fun small h => hsub.2.trans_le h.size⟩)

theorem search_fits (hnd : cands.Nodup) : OutcomeFits p cands s p.maxFlips 1 (search p cands s) := searchFrom_fits hnd _ _

end

/-- Settles O41. -/
theorem searchStopsAtTheSmallestMatch : Obligations.SearchStopsAtTheSmallestMatch := by
  intro p cands s hnd
  rcases search_fits (p := p) (s := s) hnd with
    ⟨sub, ho, hm, hl, honly⟩ | ⟨ho, sub, other, hne, hm, hm', heq, hl, hleast⟩ | ⟨ho, hnone⟩
  · rw [ho]
    refine ⟨fun _ => ⟨sub, hm.sublist, hm.size, by omega, hm.combined, rfl, fun other hs h1 hle hc => honly other ⟨hs, h1, hc⟩ hle⟩,
      nofun, nofun, .inl rfl⟩
  · rw [ho]
    refine ⟨nofun, fun _ => ⟨rfl, sub, other, hne, hm.sublist, hm'.sublist, heq, hm.size, by omega, hm.combined, hm'.combined,
      fun small hs h1 hlt hc => ?_⟩, nofun, .inr (.inl rfl)⟩
    have := hleast small ⟨hs, h1, hc⟩
    omega
  · rw [ho]
    refine ⟨nofun, nofun, fun _ => ⟨rfl, fun sub hs h1 hle hc => ?_⟩, .inr (.inr rfl)⟩
    have := hnone sub ⟨hs, h1, hc⟩
    omega

/-! ### A FOUND repair -/

theorem foldl_xor : ∀ (l : List (BitVec 32)) (a : BitVec 32),
    l.foldl (fun acc x => acc ^^^ x) a = a ^^^ l.foldl (fun acc x => acc ^^^ x) 0#32
  | [], a => (BitVec.xor_zero).symm
  | x :: l, a => by
    rw [List.foldl_cons, List.foldl_cons, foldl_xor l (a ^^^ x), foldl_xor l (0#32 ^^^ x), BitVec.zero_xor, BitVec.xor_assoc]

theorem foldr_xor : ∀ (l : List (BitVec 32)) (a : BitVec 32),
    l.foldr (fun x acc => acc ^^^ x) a = a ^^^ l.foldl (fun acc x => acc ^^^ x) 0#32
  | [], a => (BitVec.xor_zero).symm
  | x :: l, a => by
    rw [List.foldr_cons, foldr_xor l a, List.foldl_cons, foldl_xor l (0#32 ^^^ x), BitVec.zero_xor, BitVec.xor_assoc,
      BitVec.xor_comm _ x]

/-- Settles O42. -/
theorem foundRepairClearsTheSyndrome : Obligations.FoundRepairClearsTheSyndrome := by
  intro p bits cands flips hkind hlen hnd hpos hfound
  rcases search_fits (p := p) (s := syndrome p bits) hnd with ⟨sub, ho, hm, -, -⟩ | ⟨ho, -⟩ | ⟨ho, -⟩
  · rw [hfound] at ho
    cases ho
    have positions : ∀ k ∈ sub, k < p.tallied := fun k hk => hpos k (hm.sublist.subset hk)
    have together : (sub.map (contribution p)).foldl (fun acc x => acc ^^^ x) 0#32 = syndrome p bits := hm.combined
    rw [flipFrom_congr (fun k => mem_sortAsc k sub), syndrome_flips hkind hlen sub (hnd.sublist hm.sublist) positions, foldr_xor,
      together]
    exact BitVec.xor_self
  · rw [hfound] at ho
    cases ho
  · rw [hfound] at ho
    cases ho

end Sys2Proof.Machine

/-! Maintenance commands that report, write a profile, and serve counters and units (R23, R37 to R39, R61, R78, R165, R176,
R177, R186). -/

namespace Sys2Proof.Machine

section
variable {s : State} {f : Frame} {w : Fin 8}

/-- A command whose effect is an answer alone. -/
theorem State.command_answer (h : s.Listening f) (args : Nat) (r : State → Result) (data : State → List Byte) :
    s.command args (fun t => t.answer (r t) (data t))
      = s.replied f args (r { s with frame := none }) (data { s with frame := none }) := by
  rw [s.command_of_listening args _ f h]
  rfl

theorem State.windowCommand_answer {window : Byte} (h : s.Listening f) (hw : window.toNat = w.val) (args : Nat)
    {e : Fin 8 → State → Effect} {r : Result} {data : List Byte} (he : e w { s with frame := none } = ⟨{ s with frame := none }, r, data⟩) :
    s.windowCommand args window e = s.replied f args r data := by
  rw [s.windowCommand_of_listening args window w e f h hw, he]
  rfl

/-! ### Reports -/

theorem WindowState.code_eq (x : WindowState) : x.code = if x = .off then 0 else if x = .active then 1 else 2 := by
  cases x <;> rfl

theorem WindowState.code_le (x : WindowState) : x.code ≤ 2 := by
  cases x <;> decide

/-- Two bits of the window-state number for each window (R186). -/
theorem State.stateNumber_digit (w : Fin 8) : s.stateNumber / 4 ^ w.val % 4 = s.windows[w].state.code := by
  have number : s.stateNumber = 0 + s.windows[0].state.code * 4 ^ 0 + s.windows[1].state.code * 4 ^ 1
      + s.windows[2].state.code * 4 ^ 2 + s.windows[3].state.code * 4 ^ 3 + s.windows[4].state.code * 4 ^ 4
      + s.windows[5].state.code * 4 ^ 5 + s.windows[6].state.code * 4 ^ 6 + s.windows[7].state.code * 4 ^ 7 := rfl
  have h0 := s.windows[0].state.code_le
  have h1 := s.windows[1].state.code_le
  have h2 := s.windows[2].state.code_le
  have h3 := s.windows[3].state.code_le
  have h4 := s.windows[4].state.code_le
  have h5 := s.windows[5].state.code_le
  have h6 := s.windows[6].state.code_le
  have h7 := s.windows[7].state.code_le
  fin_cases w <;> dsimp <;> omega

theorem State.stateNumber_lt : s.stateNumber < 65536 := by
  have number : s.stateNumber = 0 + s.windows[0].state.code * 4 ^ 0 + s.windows[1].state.code * 4 ^ 1
      + s.windows[2].state.code * 4 ^ 2 + s.windows[3].state.code * 4 ^ 3 + s.windows[4].state.code * 4 ^ 4
      + s.windows[5].state.code * 4 ^ 5 + s.windows[6].state.code * 4 ^ 6 + s.windows[7].state.code * 4 ^ 7 := rfl
  have h0 := s.windows[0].state.code_le
  have h1 := s.windows[1].state.code_le
  have h2 := s.windows[2].state.code_le
  have h3 := s.windows[3].state.code_le
  have h4 := s.windows[4].state.code_le
  have h5 := s.windows[5].state.code_le
  have h6 := s.windows[6].state.code_le
  have h7 := s.windows[7].state.code_le
  omega

/-- The number of two bytes sent low byte first. -/
theorem byteOf_pair {n : Nat} (h : n < 65536) : (byteOf n).toNat + 256 * (byteOf (n / 256)).toNat = n := by
  simp only [byteOf, BitVec.toNat_ofNat]
  omega

end

/-- Settles O44. -/
theorem reportCommands : Obligations.ReportCommands := by
  intro s f h
  refine ⟨⟨byteOf s.stateNumber, byteOf (s.stateNumber / 256), ?_, fun w => ?_⟩, ?_, fun hnone => ?_, fun r hr => ?_, ?_⟩
  · refine congrArg Host.Outcome.next ((s.command_of_listening 0 _ f h).trans ?_)
    have cause : byteOf s.resetCause.code = if s.resetCause = ResetCause.pin then 1 else 2 := by
      cases s.resetCause <;> rfl
    rw [← cause]
    rfl
  · rw [byteOf_pair State.stateNumber_lt, State.stateNumber_digit, WindowState.code_eq]
  · exact congrArg Host.Outcome.next (State.command_answer h 0 (fun _ => .ok) fun t => t.ring.report)
  · refine congrArg Host.Outcome.next ((State.command_answer h 0 (fun _ => .ok) fun t => faultBytes t.faultRecord).trans ?_)
    dsimp only
    rw [hnone]
    rfl
  · refine congrArg Host.Outcome.next ((State.command_answer h 0 (fun _ => .ok) fun t => faultBytes t.faultRecord).trans ?_)
    dsimp only
    rw [hr]
    cases hk : r.kind <;> simp [faultBytes, hk, EntryKind.code, byteOf]
  · exact congrArg Host.Outcome.next (s.command_of_listening 0 _ f h)

/-- Settles O49. -/
theorem counterCommands : Obligations.CounterCommands := by
  intro s f window w h hw c
  exact ⟨congrArg Host.Outcome.next (State.windowCommand_answer h hw 1 rfl),
    congrArg Host.Outcome.next (s.windowCommand_of_listening 1 window w _ f h hw)⟩

/-! ### Units -/

section
variable {s : State} {u : UnitId} {i : Fin 32} {c : Context}

theorem State.unitContext_of_none (h : s.findContext u = none) : s.unitContext u = none := by
  unfold State.unitContext
  rw [h]

theorem State.unitContext_of_some (h : s.findContext u = some i) (hc : s.contexts[i] = some c) : s.unitContext u = some c := by
  unfold State.unitContext
  rw [h]
  exact hc

theorem State.queryUnit_refused (h : (s.profile u.window).unitCount ≤ u.unit) : s.queryUnit u = s.answer .badArg [] := if_pos h

theorem State.queryUnit_answered (h : u.unit < (s.profile u.window).unitCount) :
    s.queryUnit u = s.answer .ok (unitRecord (s.isSettled u) (s.unitContext u)) := if_neg (Nat.not_le.mpr h)

theorem State.reopenUnit_refused (h : (s.profile u.window).unitCount ≤ u.unit) : s.reopenUnit u = s.answer .badArg [] := if_pos h

theorem State.reopenUnit_busy (h : u.unit < (s.profile u.window).unitCount) (hi : s.findContext u = some i) :
    s.reopenUnit u = s.answer .busy [] := by
  unfold State.reopenUnit
  rw [if_neg (Nat.not_le.mpr h), hi]
  rfl

theorem State.reopenUnit_done (h : u.unit < (s.profile u.window).unitCount) (hi : s.findContext u = none) :
    s.reopenUnit u = ⟨s.unsettleUnit u, .ok, []⟩ := by
  unfold State.reopenUnit
  rw [if_neg (Nat.not_le.mpr h), hi]
  rfl

end

/-- Settles O50. -/
theorem unitCommands : Obligations.UnitCommands := by
  intro s f window unit w h hw u
  refine ⟨fun hu => ⟨?_, ?_⟩, fun hu hnone => ⟨?_, ?_⟩, fun i c hu hi hc => ⟨?_, ?_⟩⟩
  · exact congrArg Host.Outcome.next (State.windowCommand_answer h hw 3 (State.queryUnit_refused (u := u) hu))
  · exact congrArg Host.Outcome.next (State.windowCommand_answer h hw 3 (State.reopenUnit_refused (u := u) hu))
  · refine congrArg Host.Outcome.next ((State.windowCommand_answer h hw 3 (State.queryUnit_answered (s := { s with frame := none }) (u := u) hu)).trans ?_)
    rw [State.unitContext_of_none (s := { s with frame := none }) hnone]
    rfl
  · refine congrArg Host.Outcome.next ((s.windowCommand_of_listening 3 window w _ f h hw).trans ?_)
    have done := State.reopenUnit_done (s := { s with frame := none }) (u := u) hu hnone
    dsimp only
    rw [done]
    rfl
  · refine congrArg Host.Outcome.next ((State.windowCommand_answer h hw 3 (State.queryUnit_answered (s := { s with frame := none }) (u := u) hu)).trans ?_)
    rw [State.unitContext_of_some (s := { s with frame := none }) hi hc]
    rfl
  · exact congrArg Host.Outcome.next (State.windowCommand_answer h hw 3 (State.reopenUnit_busy (u := u) hu hi))

/-! ### Profiles -/

/-- A write of a field leaves the others. -/
theorem Profile.writeField_others (p : Profile) (id j : Nat) (v : BitVec 32) (hj : j ≠ id) : (p.writeField id v).2.field j = p.field j := by
  fun_cases Profile.writeField p id v
  all_goals
    unfold Profile.field
    split <;> trivial

end Sys2Proof.Machine

/-! WRITE-PROFILE and READ-PROFILE (R22, R23). -/

namespace Sys2Proof.Machine

section
variable {p : Profile} {s : State} {f : Frame} {w : Fin 8} {window id : Byte} {v x : BitVec 32} {r : Result}

theorem Profile.field_unknown {n : Nat} (h : 13 < n) : p.field n = none := by
  unfold Profile.field
  split <;> simp_all

theorem Profile.writeField_unknown {n : Nat} (h : 13 < n) : p.writeField n v = (.badArg, p) := by
  unfold Profile.writeField
  split <;> simp_all

/-- The values WRITE-PROFILE refuses (R23). -/
theorem Profile.writeField_refused
    (h : (id = 0 ∧ v.toNat % 4 ≠ 0) ∨ (id = 1 ∧ 5 < v.toNat) ∨ (id = 3 ∧ 2 < v.toNat) ∨ (id = 5 ∧ 15 < v.toNat)) :
    p.writeField id.toNat v = (.badArg, p) := by
  rcases h with ⟨rfl, hv⟩ | ⟨rfl, hv⟩ | ⟨rfl, hv⟩ | ⟨rfl, hv⟩
  · exact if_neg hv
  · exact if_neg (Nat.not_le.mpr hv)
  · exact (if_neg (by omega)).trans ((if_neg (by omega)).trans (if_neg (by omega)))
  · exact if_neg (Nat.not_le.mpr hv)

/-- The values WRITE-PROFILE stores as they are, the clamped fields apart (R23). -/
theorem Profile.writeField_taken
    (h : (id = 0 ∧ v.toNat % 4 = 0) ∨ (id = 1 ∧ v.toNat ≤ 5) ∨ (id = 3 ∧ v.toNat ≤ 2) ∨ id = 4 ∨ (id = 5 ∧ v.toNat ≤ 15)) :
    (p.writeField id.toNat v).1 = .ok ∧ (p.writeField id.toNat v).2.field id.toNat = some v := by
  have self : BitVec.ofNat 32 v.toNat = v := BitVec.eq_of_toNat_eq (by simp)
  rcases h with ⟨rfl, hv⟩ | ⟨rfl, hv⟩ | ⟨rfl, hv⟩ | rfl | ⟨rfl, hv⟩
  · have taken : p.writeField (0 : Byte).toNat v = (.ok, { p with base := v }) := if_pos hv
    rw [taken]
    exact ⟨rfl, rfl⟩
  · have taken : p.writeField (1 : Byte).toNat v = (.ok, { p with sizeCode := v.toNat }) := if_pos hv
    rw [taken]
    exact ⟨rfl, congrArg some self⟩
  · have kinds : v.toNat = 0 ∨ v.toNat = 1 ∨ v.toNat = 2 := by omega
    have known : ∃ kind : CheckKind, p.writeField (3 : Byte).toNat v = (.ok, { p with checkKind := kind }) ∧ kind.code = v.toNat := by
      rcases kinds with hk | hk | hk
      · exact ⟨.none, if_pos hk, hk.symm⟩
      · exact ⟨.crc16, (if_neg (by omega)).trans (if_pos hk), hk.symm⟩
      · exact ⟨.crc32, (if_neg (by omega)).trans ((if_neg (by omega)).trans (if_pos hk)), hk.symm⟩
    obtain ⟨kind, taken, code⟩ := known
    rw [taken]
    exact ⟨rfl, congrArg some ((congrArg (BitVec.ofNat 32) code).trans self)⟩
  · exact ⟨rfl, rfl⟩
  · have taken : p.writeField (5 : Byte).toNat v = (.ok, { p with captureSet := v.setWidth 4 }) := if_pos hv
    rw [taken]
    refine ⟨rfl, congrArg some (BitVec.eq_of_toNat_eq ?_)⟩
    simp only [BitVec.toNat_setWidth]
    omega

/-- The clamped fields (R23). -/
theorem Profile.writeField_clamped {lo hi : Nat}
    (h : (id, lo, hi) ∈ ([(2, 1, 4096), (6, 1, 15), (7, 1, 63), (8, 1, 4), (9, 1, 7), (10, 0, 24), (11, 1, 3), (12, 0, 255),
      (13, 0, 65535)] : List (Byte × Nat × Nat))) :
    (p.writeField id.toNat v).1 = clampResult lo hi v.toNat
      ∧ (p.writeField id.toNat v).2.field id.toNat = some (BitVec.ofNat 32 (clampTo lo hi v.toNat)) := by
  simp only [List.mem_cons, Prod.mk.injEq, List.not_mem_nil, or_false] at h
  rcases h with ⟨rfl, rfl, rfl⟩ | ⟨rfl, rfl, rfl⟩ | ⟨rfl, rfl, rfl⟩ | ⟨rfl, rfl, rfl⟩ | ⟨rfl, rfl, rfl⟩ | ⟨rfl, rfl, rfl⟩
    | ⟨rfl, rfl, rfl⟩ | ⟨rfl, rfl, rfl⟩ | ⟨rfl, rfl, rfl⟩
  all_goals exact ⟨rfl, rfl⟩

/-- WRITE-PROFILE on an OFF window (R23). -/
theorem State.exec_writeProfile_off (h : s.Listening f) (hw : window.toNat = w.val) (hoff : s.windows[w].state = .off) :
    exec (.writeProfile window id v) s = .next ((s.setWindow w { s.windows[w] with
        profile := ((s.profile w).writeField id.toNat v).2 }).replied f 6 ((s.profile w).writeField id.toNat v).1
      (bytes4 ((((s.profile w).writeField id.toNat v).2.field id.toNat).getD 0))) := by
  refine congrArg Host.Outcome.next ((s.windowCommand_of_listening 6 window w _ f h hw).trans ?_)
  have off : State.writeProfile { s with frame := none } w id.toNat v = _ := if_pos hoff
  dsimp only
  rw [off]
  rfl

theorem State.exec_writeProfile_refused (h : s.Listening f) (hw : window.toNat = w.val) (hoff : s.windows[w].state = .off)
    (hr : (s.profile w).writeField id.toNat v = (.badArg, s.profile w)) :
    exec (.writeProfile window id v) s
      = .next (s.replied f 6 .badArg (bytes4 (((s.profile w).field id.toNat).getD 0))) := by
  have same : s.setWindow w { s.windows[w] with profile := s.profile w } = s :=
    congrArg (fun ws => { s with windows := ws }) (set_getElem_eq s.windows w rfl)
  rw [State.exec_writeProfile_off h hw hoff, hr]
  dsimp only
  rw [same]

theorem State.exec_writeProfile_stored (h : s.Listening f) (hw : window.toNat = w.val) (hoff : s.windows[w].state = .off)
    (hr : ((s.profile w).writeField id.toNat v).1 = r ∧ ((s.profile w).writeField id.toNat v).2.field id.toNat = some x) :
    ∃ p : Profile, exec (.writeProfile window id v) s
        = .next ((s.setWindow w { s.windows[w] with profile := p }).replied f 6 r (bytes4 x))
      ∧ p.field id.toNat = some x ∧ ∀ j, j ≠ id.toNat → p.field j = (s.profile w).field j := by
  refine ⟨((s.profile w).writeField id.toNat v).2, ?_, hr.2, fun j hj => Profile.writeField_others _ _ _ _ hj⟩
  rw [State.exec_writeProfile_off h hw hoff, hr.1, hr.2]
  rfl

theorem State.readProfile_of_field (h : (s.profile w).field id.toNat = some x) : s.readProfile w id.toNat = s.answer .ok (bytes4 x) := by
  unfold State.readProfile
  rw [h]

theorem State.readProfile_of_none (h : (s.profile w).field id.toNat = none) :
    s.readProfile w id.toNat = s.answer .badArg (bytes4 0) := by
  unfold State.readProfile
  rw [h]

end

/-- Settles O45. -/
theorem profileCommands : Obligations.ProfileCommands := by
  intro s f window id v w h hw
  refine ⟨fun hbusy => ?_, fun hoff hid => ?_, fun hoff hv => ?_, fun hoff hv => ?_, fun lo hi hoff hid => ?_, fun hid => ?_,
    fun x hx => ?_⟩
  · exact congrArg Host.Outcome.next (State.windowCommand_answer h hw 6 (if_neg hbusy))
  · rw [State.exec_writeProfile_refused h hw hoff (Profile.writeField_unknown hid), Profile.field_unknown hid]
    rfl
  · exact State.exec_writeProfile_refused h hw hoff (Profile.writeField_refused hv)
  · exact State.exec_writeProfile_stored h hw hoff (Profile.writeField_taken hv)
  · exact State.exec_writeProfile_stored h hw hoff (Profile.writeField_clamped hid)
  · exact congrArg Host.Outcome.next (State.windowCommand_answer h hw 2
      (State.readProfile_of_none (s := { s with frame := none }) (Profile.field_unknown hid)))
  · exact congrArg Host.Outcome.next (State.windowCommand_answer h hw 2
      (State.readProfile_of_field (s := { s with frame := none }) hx))

end Sys2Proof.Machine

/-! OPEN-WINDOW: the tests of R27, and the window it opens. -/

namespace Sys2Proof.Machine

/-- Two ranges share a byte when neither is empty and each begins before the other's end. -/
theorem shareByte_iff {b₁ e₁ b₂ e₂ : Nat} : ShareByte b₁ e₁ b₂ e₂ ↔ b₁ < e₁ ∧ b₂ < e₂ ∧ b₁ < e₂ ∧ b₂ < e₁ := by
  constructor
  · rintro ⟨x, h₁, h₂, h₃, h₄⟩
    omega
  · rintro ⟨h₁, h₂, h₃, h₄⟩
    exact ⟨max b₁ b₂, le_max_left _ _, max_lt h₁ h₄, le_max_right _ _, max_lt h₃ h₂⟩

theorem regionsMeet_iff {b₁ l₁ b₂ l₂ : Nat} : regionsMeet b₁ l₁ b₂ l₂ = true ↔ ShareByte b₁ (b₁ + l₁) b₂ (b₂ + l₂) := by
  simp [regionsMeet, shareByte_iff, and_assoc]

theorem meetsRing_iff {p : Profile} {first past : Addr} :
    State.meetsRing p first past = true ↔ ShareByte p.base.toNat (p.base.toNat + p.span) first.toNat past.toNat := by
  rw [State.meetsRing, regionsMeet_iff, shareByte_iff, shareByte_iff]
  omega

section
variable {s : State} {w : Fin 8}

theorem State.meetsWindow_iff : s.meetsWindow w = true ↔ ∃ v : Fin 8, v ≠ w ∧ s.windows[v].state ≠ .off
    ∧ ShareByte (s.profile w).base.toNat ((s.profile w).base.toNat + (s.profile w).span)
      (s.profile v).base.toNat ((s.profile v).base.toNat + (s.profile v).span) := by
  simp [State.meetsWindow, regionsMeet_iff, and_assoc]

/-- The refusals of R27. -/
theorem State.openRefused_iff : s.openRefused w = true ↔
    0x100000000 < (s.profile w).base.toNat + (s.profile w).span ∨ (s.profile w).passLimit < (s.profile w).minPasses
      ∨ (∃ v : Fin 8, v ≠ w ∧ s.windows[v].state ≠ .off
          ∧ ShareByte (s.profile w).base.toNat ((s.profile w).base.toNat + (s.profile w).span)
            (s.profile v).base.toNat ((s.profile v).base.toNat + (s.profile v).span))
      ∨ ShareByte (s.profile w).base.toNat ((s.profile w).base.toNat + (s.profile w).span) s.ring.first.toNat s.ring.past.toNat := by
  simp only [State.openRefused, Bool.or_eq_true, decide_eq_true_eq, State.meetsWindow_iff, meetsRing_iff, or_assoc]
  exact Iff.rfl

theorem State.openNow_of_waiting (h : ∀ a ∈ s.active, a.waiting = []) : s.openNow w = { s with
    windows := s.windows.set w { s.windows[w] with state := .active, settled := [], counters := Counters.zero }
    through := s.through.map (Through.dropRecord w)
    testDue := s.testDue || s.through.any (Through.recordIn w) } := by
  unfold State.openNow
  dsimp only
  rw [State.changeWindow_of_waiting _ _ _ (by exact h)]
  simp [State.discardRecords, State.setWindow]

/-- Opening a window changes nothing but the window and the override records. -/
theorem State.Still.settle_openNow (h : s.Still) (hh : ∀ k : Fin 4, s.holds[k] = none) : (s.openNow w).settle = { s with
    windows := s.windows.set w { s.windows[w] with state := .active, settled := [], counters := Counters.zero }
    through := s.through.map (Through.dropRecord w) } := by
  have closing : ∀ v : Fin 8, (s.openNow w).windows[v].state = .closing → s.windows[v].state = .closing := by
    intro v hv
    rw [State.openNow_of_waiting h.waiting] at hv
    by_cases hvw : v = w
    · subst hvw
      rw [Fin.getElem_fin, Vector.getElem_set_self] at hv
      cases hv
    · rwa [Fin.getElem_fin, Vector.getElem_set_ne _ _ fun e => hvw (Fin.ext e.symm)] at hv
  have opened := State.openNow_of_waiting (w := w) h.waiting
  obtain ⟨-, hfold, hdrain, -, hfeed⟩ := h.parts
  rw [h.settle_testHolds (t := s.openNow w) (by rw [opened])
    (State.atOnceDrain_mono hdrain (by rw [opened]) fun v hc hq => ⟨closing v hc, by rw [opened] at hq; exact hq⟩)
    (by rw [opened]; exact hfold) (by rw [opened]) (by rw [opened]) (by rw [opened]) (by rw [opened])
    (State.feed_none_congr (by rw [opened]) (by rw [opened]) (by rw [opened]) hfeed),
    State.testHolds_of_no_hold _ (by rw [opened]; exact hh), opened, ← h.testDue]

end

theorem Through.dropRecord_of_some {w : Fin 8} {t : Through} {r : OverrideRecord} (h : t.record = some r) :
    t.dropRecord w = if r.uid.window = w then { t with record := none } else t := by
  simp [Through.dropRecord, Through.recordIn, h]

theorem Through.dropRecord_of_none {w : Fin 8} {t : Through} (h : t.record = none) : t.dropRecord w = t := by
  simp [Through.dropRecord, Through.recordIn, h]

/-- Settles O46. -/
theorem openWindowTests : Obligations.OpenWindowTests := by
  intro s f window w h hw p top refused
  have refusal : State.openRefused { s with frame := none } w = true ↔ refused := State.openRefused_iff
  refine ⟨fun hbusy => ?_, fun hoff hr => ?_, fun hoff hr hstill hholds => ?_⟩
  · exact congrArg Host.Outcome.next (State.windowCommand_answer h hw 1 (if_pos hbusy))
  · exact congrArg Host.Outcome.next (State.windowCommand_answer h hw 1
      ((if_neg (not_not_intro hoff)).trans (if_pos (refusal.mpr hr))))
  · have opens : State.openWindow { s with frame := none } w = ⟨(State.openNow { s with frame := none } w).settle, .ok, []⟩ :=
      (if_neg (not_not_intro hoff)).trans (if_neg fun e => hr (refusal.mp e))
    refine congrArg Host.Outcome.next ((s.windowCommand_of_listening 1 window w _ f h hw).trans ?_)
    dsimp only
    rw [opens, hstill.withoutFrame.settle_openNow hholds]
    dsimp only [State.replied, Result.refused]
    congr 1
    refine List.map_congr_left fun t ht => ?_
    cases hrec : t.record with
    | none => exact Through.dropRecord_of_none hrec
    | some r => exact Through.dropRecord_of_some hrec

end Sys2Proof.Machine

/-! CLOSE-WINDOW: the start of a drain, its end where nothing is under way, and the verdict UNSETTLED it gives at once (R28, R29,
R31). -/

namespace Sys2Proof.Machine

section
variable {s : State} {w : Fin 8} {i : Fin 32} {c : Context}

/-- The state with a window CLOSING. -/
def State.closing (s : State) (w : Fin 8) : State := s.setWindow w { s.windows[w] with state := .closing }

theorem State.closeWindow_off (h : s.windows[w].state = .off) : s.closeWindow w = s.answer .busy [] := by
  unfold State.closeWindow
  rw [h]

theorem State.closeWindow_closing (h : s.windows[w].state = .closing) : s.closeWindow w = s.answer .ok [] := by
  unfold State.closeWindow
  rw [h]

theorem State.closeWindow_active (h : s.windows[w].state = .active) (ha : ∀ a ∈ s.active, a.waiting = []) :
    s.closeWindow w = ⟨(s.closing w).settle, .ok, []⟩ := by
  unfold State.closeWindow
  rw [h]
  dsimp only
  rw [State.changeWindow_of_waiting _ _ _ ha]
  rfl

theorem State.closing_state (v : Fin 8) : (s.closing w).windows[v].state = if v = w then .closing else s.windows[v].state := by
  rw [State.closing, State.setWindow_get]
  split <;> rfl

/-- A window other than the one that closes has no drain work due. -/
theorem State.closing_others (h : s.atOnceDrain = none) : (∀ (j : Fin 32) (d : Context), s.contexts[j] = some d →
      d.uid.window ≠ w → (s.closing w).unsettleDue j = false) ∧ ∀ v, v ≠ w → (s.closing w).drainEnds v = false := by
  obtain ⟨hun, hend⟩ := s.atOnceDrain_none.mp h
  constructor
  · intro j d hj hd
    rw [Bool.eq_false_iff, ne_eq, State.unsettleDue_iff]
    rintro ⟨e, he, ho, hclosing, hquiet⟩
    cases hj.symm.trans he
    rw [State.closing_state, if_neg hd] at hclosing
    exact Bool.eq_false_iff.mp (hun j) ((s.unsettleDue_iff j).mpr ⟨d, hj, ho, hclosing, hquiet⟩)
  · intro v hv
    rw [Bool.eq_false_iff, ne_eq, State.drainEnds_iff]
    rintro ⟨hclosing, hquiet, hnil⟩
    rw [State.closing_state, if_neg hv] at hclosing
    exact Bool.eq_false_iff.mp (hend v) ((s.drainEnds_iff v).mpr ⟨hclosing, hquiet, hnil⟩)

theorem State.closing_unsettleDue_free (j : Fin 32) (h : s.contexts[j] = none) : (s.closing w).unsettleDue j = false := by
  rw [Bool.eq_false_iff, ne_eq, State.unsettleDue_iff]
  rintro ⟨e, he, -⟩
  cases h.symm.trans he

/-- A pass under way keeps the drain from going on. -/
theorem State.Still.closing (h : s.Still) (hq : s.passQuiet w = false) : (s.closing w).Still := by
  obtain ⟨others, ends⟩ := State.closing_others (w := w) h.parts.2.2.1
  refine h.of_drain h.waiting ((s.closing w).atOnceDrain_none.mpr ⟨fun j => ?_, fun v => ?_⟩) h.parts.2.1 rfl rfl rfl rfl rfl
    h.testDue
  · cases hj : s.contexts[j] with
    | none => exact State.closing_unsettleDue_free j hj
    | some d =>
      by_cases hd : d.uid.window = w
      · rw [Bool.eq_false_iff, ne_eq, State.unsettleDue_iff]
        rintro ⟨e, he, -, -, hquiet⟩
        cases hj.symm.trans he
        rw [hd] at hquiet
        exact Bool.eq_false_iff.mp hq hquiet
      · exact others j d hj hd
  · by_cases hv : v = w
    · rw [Bool.eq_false_iff, ne_eq, State.drainEnds_iff, hv]
      exact fun hquiet => Bool.eq_false_iff.mp hq hquiet.2.1
    · exact ends v hv

/-- A window with nothing under way is OFF at once. -/
theorem State.Still.settle_closing (h : s.Still) (hq : s.passQuiet w = true) (hnil : s.windowContexts w = [])
    (hlate : ∀ k : Fin 4, s.lanes[k].runsLate w = false) : (s.closing w).settle
      = { s.setWindow w { s.windows[w] with state := .off } with flags := s.flags ||| 0x080 } := by
  obtain ⟨others, ends⟩ := State.closing_others (w := w) h.parts.2.2.1
  have unsettle : ∀ j, (s.closing w).unsettleDue j = false := by
    intro j
    cases hj : s.contexts[j] with
    | none => exact State.closing_unsettleDue_free j hj
    | some d => exact others j d hj ((s.windowContexts_eq_nil w).mp hnil j d hj)
  have drains : (s.closing w).drainEnds w = true :=
    ((s.closing w).drainEnds_iff w).mpr ⟨by rw [State.closing_state, if_pos rfl], hq, hnil⟩
  have lanes : s.lanes.map (Lane.dropLate w) = s.lanes := map_eq_self _ _ fun k => if_neg (by rw [hlate k]; nofun)
  have off : (s.closing w).windows.set w.val { (s.closing w).windows[w] with state := .off }
      = s.windows.set w.val { s.windows[w] with state := .off } := by
    rw [State.closing, State.setWindow_get, if_pos rfl, State.setWindow_windows, Vector.set_set]
  rw [State.settle_endDrain (s.closing w) w h.waiting h.parts.1 h.parts.2.1 unsettle drains ends
    (State.atOnceBacklog_none_congr h.parts.2.2.2.1 rfl rfl) (State.feed_none_congr (s := s) rfl rfl rfl h.parts.2.2.2.2),
    State.endDrain_of_waiting (s.closing w) w h.waiting, State.testHolds_of_not_due _ (by exact h.testDue), off]
  exact congrArg (fun lanes => { s.setWindow w { s.windows[w] with state := .off } with
    lanes := lanes, flags := s.flags ||| 0x080 }) lanes

/-- A drain that has given the context in slot `i` its verdict UNSETTLED and waits to post it (R29). -/
def State.unsettled (s : State) (w : Fin 8) (i : Fin 32) (c : Context) : State := { s with
  windows := s.windows.set w { s.windows[w] with
    state := .closing
    settled := insertAsc c.uid.unit s.windows[w].settled
    counters := { s.windows[w].counters with unsettled := satInc s.windows[w].counters.unsettled } }
  contexts := s.contexts.set i (some { c with state := .draining, posting := true })
  flags := s.flags ||| 0x002
  postings := [⟨.drain i, some c.uid, [.trailer, .notice]⟩] }

theorem State.unsettled_state (v : Fin 8) :
    (s.unsettled w i c).windows[v].state = if v = w then .closing else s.windows[v].state := by
  change (s.setWindow w _).windows[v].state = _
  rw [State.setWindow_get]
  split <;> rfl

theorem State.slot_of_only {j : Fin 32} {d : Context} (honly : s.windowContexts w = [i]) (hj : s.contexts[j] = some d)
    (hd : d.uid.window = w) : j = i := by
  have : j ∈ s.windowContexts w := (s.mem_windowContexts w j).mpr ⟨d, hj, hd⟩
  rw [honly] at this
  exact List.mem_singleton.mp this

section
variable (hc : s.contexts[i] = some c) (honly : s.windowContexts w = [i])
include hc honly

theorem State.window_of_only : c.uid.window = w := by
  obtain ⟨d, hd, hw⟩ := (s.mem_windowContexts w i).mp (by rw [honly]; exact List.mem_singleton_self i)
  cases hc.symm.trans hd
  exact hw

theorem State.Still.closing_unsettles (h : s.Still) (ho : c.state = .opened) (hq : s.passQuiet w = true)
    (hp : s.postings = []) : (s.closing w).atOnce = some (s.unsettled w i c) := by
  have hw := State.window_of_only hc honly
  subst hw
  obtain ⟨others, -⟩ := State.closing_others (w := c.uid.window) h.parts.2.2.1
  have due : ∀ j, (s.closing c.uid.window).unsettleDue j = true ↔ j = i := by
    intro j
    constructor
    · intro hdue
      obtain ⟨d, hd, -⟩ := ((s.closing c.uid.window).unsettleDue_iff j).mp hdue
      refine State.slot_of_only honly hd (by_contra fun hne => ?_)
      rw [others j d hd hne] at hdue
      cases hdue
    · rintro rfl
      exact ((s.closing c.uid.window).unsettleDue_iff j).mpr ⟨c, hc, ho, by rw [State.closing_state, if_pos rfl], hq⟩
  have slots : (s.closing c.uid.window).unsettleSlots = [i] := by
    rw [← honly]
    refine List.filter_congr fun j hj => Bool.eq_iff_iff.mpr ((due j).trans ?_)
    rw [← List.mem_singleton, ← honly, State.windowContexts, List.mem_filter]
    exact and_iff_right hj
  have verdict : (s.closing c.uid.window).unsettle i = s.unsettled c.uid.window i c := by
    rw [State.unsettle_of_opened (s := s.closing c.uid.window) i c hc ho, State.finalVerdict_eq]
    simp only [State.beginPosting, State.setContext, State.closing, State.setWindow, Vector.set_set, Fin.getElem_fin,
      Vector.getElem_set_self, hp]
    rfl
  have drain : (s.closing c.uid.window).atOnceDrain = some (s.unsettled c.uid.window i c) := by
    unfold State.atOnceDrain
    rw [slots, ← verdict]
    rfl
  unfold State.atOnce
  rw [State.atOnceBeats_of_waiting (s.closing c.uid.window) h.waiting,
    (s.closing c.uid.window).atOnceTake_none.mpr ⟨h.parts.1, h.parts.2.1⟩, drain]
  rfl

/-- The verdict is given, and its posting waits behind a full queue. -/
theorem State.Still.unsettled (h : s.Still) (hp : s.postings = []) (hfull : s.queue.length = 16) :
    (s.unsettled w i c).Still := by
  have hw := State.window_of_only hc honly
  have get : ∀ j : Fin 32, (s.unsettled w i c).contexts[j]
      = if j = i then some { c with state := .draining, posting := true } else s.contexts[j] :=
    fun j => s.setContext_get i j _
  obtain ⟨hun, hend⟩ := s.atOnceDrain_none.mp h.parts.2.2.1
  have drain : (s.unsettled w i c).atOnceDrain = none := by
    refine (s.unsettled w i c).atOnceDrain_none.mpr ⟨fun j => ?_, fun v => ?_⟩
    · rw [Bool.eq_false_iff, ne_eq, State.unsettleDue_iff]
      rintro ⟨d, hd, hopen, hclosing, hquiet⟩
      rw [get] at hd
      split at hd
      · cases hd
        cases hopen
      · next hne =>
        rw [State.unsettled_state, if_neg fun e => hne (State.slot_of_only honly hd e)] at hclosing
        exact Bool.eq_false_iff.mp (hun j) ((s.unsettleDue_iff j).mpr ⟨d, hd, hopen, hclosing, hquiet⟩)
    · rw [Bool.eq_false_iff, ne_eq, State.drainEnds_iff, State.windowContexts_eq_nil]
      rintro ⟨hclosing, hquiet, hnil⟩
      have hv : v ≠ w := by
        rintro rfl
        exact hnil i _ ((get i).trans (if_pos rfl)) hw
      rw [State.unsettled_state, if_neg hv] at hclosing
      refine Bool.eq_false_iff.mp (hend v) ((s.drainEnds_iff v).mpr ⟨hclosing, hquiet, ?_⟩)
      refine (s.windowContexts_eq_nil v).mpr fun j d hj => ?_
      by_cases hji : j = i
      · rw [hji, hc] at hj
        cases hj
        exact hw ▸ hv.symm
      · exact hnil j d ((get j).trans ((if_neg hji).trans hj))
  have backlog : (s.unsettled w i c).atOnceBacklog = none :=
    State.atOnceBacklog_none_of_moving h.parts.2.2.2.1 rfl (by rw [State.movingBacklog, State.movingBacklog, hp]; rfl)
  exact ⟨.of_parts _ h.waiting h.parts.1 h.parts.2.1 drain backlog
    (State.feed_of_full (s.unsettled w i c) _ [] .trailer [.notice] c.uid rfl rfl rfl nofun (by exact hfull.ge)), h.waiting, h.testDue⟩

theorem State.Still.settle_closing_unsettled (h : s.Still) (ho : c.state = .opened) (hq : s.passQuiet w = true)
    (hp : s.postings = []) (hfull : s.queue.length = 16) : (s.closing w).settle = s.unsettled w i c :=
  (State.Still.unsettled hc honly h hp hfull).settle_step (k := 0) (joined := [])
    (State.Still.closing_unsettles hc honly h ho hq hp) (List.append_nil _).symm nofun

end

end

/-- Settles O47. -/
theorem closeWindowStartsTheDrain : Obligations.CloseWindowStartsTheDrain := by
  intro s f window w h hw
  have taken : s.windows[w].state = .active → s.Still → exec (.closeWindow window) s
      = .next ((State.closing { s with frame := none } w).settle.replied f 1 .ok []) := by
    intro hactive hstill
    refine congrArg Host.Outcome.next ((s.windowCommand_of_listening 1 window w _ f h hw).trans ?_)
    have closes := State.closeWindow_active (s := { s with frame := none }) hactive hstill.waiting
    rw [closes]
  refine ⟨fun hoff => ?_, fun hclosing => ?_, fun hactive hstill hq => ?_, fun hactive hstill hq hnil hlate => ?_,
    fun i c hactive hstill hq honly hc ho hp hfull => ?_⟩
  · exact congrArg Host.Outcome.next (State.windowCommand_answer h hw 1 (State.closeWindow_off hoff))
  · exact congrArg Host.Outcome.next (State.windowCommand_answer h hw 1 (State.closeWindow_closing hclosing))
  · rw [taken hactive hstill, (hstill.withoutFrame.closing hq).settle]
    rfl
  · rw [taken hactive hstill, hstill.withoutFrame.settle_closing hq hnil hlate]
    rfl
  · have given := State.Still.settle_closing_unsettled (s := { s with frame := none }) hc honly hstill.withoutFrame ho hq hp hfull
    rw [taken hactive hstill, given]
    rfl

end Sys2Proof.Machine

/-! ABANDON-WINDOW: what becomes of the lanes (R57). -/

namespace Sys2Proof.Machine

/-! ### Buffers set free -/

/-- The second lane is the first with the buffers of which `p` holds FREE. -/
structure Lane.Frees (l l' : Lane) (p : Fin 2 → Prop) : Prop where
  freed : ∀ b, p b → l'.buffer b = .free
  kept : ∀ b, ¬ p b → l'.buffer b = l.buffer b
  filling : l'.filling = l.filling
  timer : l'.timer = l.timer
  lateRun : l'.lateRun = l.lateRun

theorem Lane.setBuffer_buffer_ne {l : Lane} {i j : Fin 2} (x : Buffer) (h : j ≠ i) : (l.setBuffer i x).buffer j = l.buffer j := by
  unfold Lane.setBuffer Lane.buffer
  fin_cases i <;> fin_cases j
  · exact absurd rfl h
  · rfl
  · rfl
  · exact absurd rfl h

theorem Lane.setBuffer_rest (l : Lane) (i : Fin 2) (x : Buffer) : (l.setBuffer i x).filling = l.filling
    ∧ (l.setBuffer i x).timer = l.timer ∧ (l.setBuffer i x).lateRun = l.lateRun := by
  unfold Lane.setBuffer
  split <;> exact ⟨rfl, rfl, rfl⟩

theorem Lane.Frees.refl (l : Lane) : l.Frees l fun _ => False := ⟨nofun, fun _ _ => rfl, rfl, rfl, rfl⟩

theorem Lane.frees_setBuffer (l : Lane) (i : Fin 2) : l.Frees (l.setBuffer i .free) (· = i) where
  freed := by
    rintro b rfl
    exact l.setBuffer_buffer b .free
  kept _ hb := Lane.setBuffer_buffer_ne _ hb
  filling := (l.setBuffer_rest i .free).1
  timer := (l.setBuffer_rest i .free).2.1
  lateRun := (l.setBuffer_rest i .free).2.2

theorem Lane.Frees.trans {l l' l'' : Lane} {p q : Fin 2 → Prop} (h : l.Frees l' p) (h' : l'.Frees l'' q) :
    l.Frees l'' fun b => p b ∨ q b where
  freed b hb := by
    by_cases hq : q b
    · exact h'.freed b hq
    · rw [h'.kept b hq, h.freed b (hb.resolve_right hq)]
  kept b hb := by rw [h'.kept b fun hq => hb (.inr hq), h.kept b fun hp => hb (.inl hp)]
  filling := h'.filling.trans h.filling
  timer := h'.timer.trans h.timer
  lateRun := h'.lateRun.trans h.lateRun

theorem Lane.Frees.congr {l l' : Lane} {p q : Fin 2 → Prop} (h : l.Frees l' p) (e : ∀ b, p b ↔ q b) : l.Frees l' q where
  freed b hb := h.freed b ((e b).mpr hb)
  kept b hb := h.kept b fun hp => hb ((e b).mp hp)
  filling := h.filling
  timer := h.timer
  lateRun := h.lateRun

/-- A buffer set free in one lane of a table. -/
theorem frees_set (lanes : Vector Lane 4) (j k : Fin 4) (i : Fin 2) :
    Lane.Frees lanes[k] (lanes.set j.val (lanes[j].setBuffer i .free))[k] fun b => j = k ∧ i = b := by
  by_cases hjk : j = k
  · subst hjk
    rw [show (lanes.set j.val (lanes[j].setBuffer i .free))[j] = lanes[j].setBuffer i .free from Vector.getElem_set_self ..]
    exact (lanes[j].frees_setBuffer i).congr fun b => by simp [eq_comm]
  · rw [show (lanes.set j.val (lanes[j].setBuffer i .free))[k] = lanes[k] from
      Vector.getElem_set_ne _ _ fun e => hjk (Fin.ext e)]
    exact (Lane.Frees.refl _).congr fun b => by simp [hjk]

/-! ### The parts of the abandon -/

/-- A lane without its filling pass and its late run of a window. -/
def Lane.abandoned (w : Fin 8) (l : Lane) : Lane := (match l.filling with
  | some f => if f.uid.window = w then { l.setBuffer f.buffer .free with filling := none, timer := none } else l
  | none => l).dropLate w

theorem State.foldl_abandonLane (s : State) (w : Fin 8) :
    (List.finRange 4).foldl (State.abandonLane w) s = { s with lanes := s.lanes.map (Lane.abandoned w) } := by
  have folded : ∀ (l : List (Fin 4)) (t : State), l.foldl (State.abandonLane w) t
      = { t with lanes := l.foldl (fun v (k : Fin 4) => v.set k.val (v[k].abandoned w)) t.lanes } := by
    intro l
    induction l with
    | nil => exact fun t => rfl
    | cons k l ih => exact fun t => (ih _).trans rfl
  rw [folded, foldl_set_eq_map]

/-- The lanes with the buffers of staged passes FREE. -/
def freeBuffers (gone : List StagedPass) (lanes : Vector Lane 4) : Vector Lane 4 :=
  gone.foldl (fun v p => v.set p.lane.val (v[p.lane].setBuffer p.buffer .free)) lanes

theorem State.foldl_freePass : ∀ (gone : List StagedPass) (s : State),
    gone.foldl State.freePass s = { s with lanes := freeBuffers gone s.lanes }
  | [], _ => rfl
  | _ :: gone, _ => (State.foldl_freePass gone _).trans rfl

theorem frees_freeBuffers (k : Fin 4) : ∀ (gone : List StagedPass) (lanes : Vector Lane 4),
    Lane.Frees lanes[k] (freeBuffers gone lanes)[k] fun b => ∃ p ∈ gone, p.lane = k ∧ p.buffer = b
  | [], lanes => (Lane.Frees.refl _).congr fun b => by simp
  | p :: gone, lanes =>
    ((frees_set lanes p.lane k p.buffer).trans (frees_freeBuffers k gone _)).congr fun b => by
      rw [List.exists_mem_cons_iff]

theorem State.frees_lanesLeft (s : State) (p : UnitId → Bool) (k : Fin 4) : Lane.Frees s.lanes[k] (s.lanesLeft p)[k]
    fun b => ∃ r, s.fold = some r ∧ p r.pass.uid = true ∧ r.pass.lane = k ∧ r.pass.buffer = b := by
  cases hf : s.fold with
  | none =>
    rw [State.lanesLeft_of_none (fun r hr => by rw [hf] at hr; cases hr)]
    exact (Lane.Frees.refl _).congr fun b => by simp
  | some r =>
    cases hp : p r.pass.uid with
    | true =>
      rw [State.lanesLeft_of_fold hf hp]
      exact (frees_set s.lanes r.pass.lane k r.pass.buffer).congr fun b => by simp [hp]
    | false =>
      rw [State.lanesLeft_of_none (fun x hx => by rw [hf] at hx; cases hx; exact hp)]
      exact (Lane.Frees.refl _).congr fun b => by simp [hp]

/-! ### One lane through the abandon -/

section
variable {l : Lane} {w : Fin 8}

theorem Lane.dropLate_lateRun : (l.dropLate w).lateRun = if l.runsLate w then none else l.lateRun := by
  unfold Lane.dropLate
  split <;> rfl

theorem Lane.dropLate_rest : (l.dropLate w).filling = l.filling ∧ (l.dropLate w).timer = l.timer
    ∧ ∀ b, (l.dropLate w).buffer b = l.buffer b := by
  unfold Lane.dropLate
  split <;> exact ⟨rfl, rfl, fun _ => rfl⟩

theorem Lane.abandoned_of_fills {g : Filling} (hg : l.filling = some g) (hw : g.uid.window = w) :
    l.abandoned w = Lane.dropLate w { l.setBuffer g.buffer .free with filling := none, timer := none } := by
  unfold Lane.abandoned
  rw [hg]
  exact congrArg (Lane.dropLate w) (if_pos hw)

theorem Lane.abandoned_of_not_fills (h : l.fills w = false) : l.abandoned w = l.dropLate w := by
  unfold Lane.abandoned
  cases hg : l.filling with
  | none => rfl
  | some g =>
    refine congrArg (Lane.dropLate w) (if_neg fun hw => ?_)
    exact Bool.eq_false_iff.mp h ((l.fills_iff w).mpr ⟨g, hg, hw⟩)

theorem Lane.abandoned_buffer (b : Fin 2) :
    ((∃ g, l.filling = some g ∧ g.uid.window = w ∧ g.buffer = b) → (l.abandoned w).buffer b = .free)
    ∧ ((¬ ∃ g, l.filling = some g ∧ g.uid.window = w ∧ g.buffer = b) → (l.abandoned w).buffer b = l.buffer b) := by
  constructor
  · rintro ⟨g, hg, hw, rfl⟩
    rw [Lane.abandoned_of_fills hg hw, Lane.dropLate_rest.2.2]
    exact l.setBuffer_buffer g.buffer .free
  · intro hb
    cases hfills : l.fills w with
    | false => rw [Lane.abandoned_of_not_fills hfills, Lane.dropLate_rest.2.2]
    | true =>
      obtain ⟨g, hg, hw⟩ := (l.fills_iff w).mp hfills
      rw [Lane.abandoned_of_fills hg hw, Lane.dropLate_rest.2.2]
      exact Lane.setBuffer_buffer_ne (l := l) .free fun e => hb ⟨g, hg, hw, e.symm⟩

theorem Lane.abandoned_filling (h : l.fills w = true) : (l.abandoned w).filling = none ∧ (l.abandoned w).timer = none := by
  obtain ⟨g, hg, hw⟩ := (l.fills_iff w).mp h
  rw [Lane.abandoned_of_fills hg hw, Lane.dropLate_rest.1, Lane.dropLate_rest.2.1]
  exact ⟨rfl, rfl⟩

theorem Lane.abandoned_other (h : l.fills w = false) :
    (l.abandoned w).filling = l.filling ∧ (l.abandoned w).timer = l.timer := by
  rw [Lane.abandoned_of_not_fills h]
  exact ⟨Lane.dropLate_rest.1, Lane.dropLate_rest.2.1⟩

theorem Lane.runsLate_congr {l l' : Lane} (h : l'.lateRun = l.lateRun) : l'.runsLate w = l.runsLate w := by
  unfold Lane.runsLate
  rw [h]

theorem Lane.abandoned_lateRun : (l.abandoned w).lateRun = if l.runsLate w then none else l.lateRun := by
  cases hfills : l.fills w with
  | false => rw [Lane.abandoned_of_not_fills hfills, Lane.dropLate_lateRun]
  | true =>
    obtain ⟨g, hg, hw⟩ := (l.fills_iff w).mp hfills
    have kept := (l.setBuffer_rest g.buffer .free).2.2
    rw [Lane.abandoned_of_fills hg hw, Lane.dropLate_lateRun,
      Lane.runsLate_congr (l := l) (l' := { l.setBuffer g.buffer .free with filling := none, timer := none }) kept]
    rw [kept]

end

end Sys2Proof.Machine

/-! ABANDON-WINDOW (R32, R33, R57). -/

namespace Sys2Proof.Machine

section
variable {s : State} {w : Fin 8}

/-- The state without the window's filling and staged passes. -/
def State.passesAbandoned (s : State) (w : Fin 8) : State :=
  { s with lanes := freeBuffers (s.foldQueue.filter (fun p => p.uid.window == w)) (s.lanes.map (Lane.abandoned w)) }

/-- The lanes after an abandon, the late runs of the window dropped once more with its state. -/
def State.lanesAbandoned (s : State) (w : Fin 8) : Vector Lane 4 :=
  ((s.passesAbandoned w).lanesLeft (fun u => u.window == w)).map (Lane.dropLate w)

/-- The state after an abandon, field by field, but for the mark of a due hold test. -/
theorem State.abandon_fields (h : ∀ a ∈ s.active, a.waiting = []) : ∃ due, s.abandon w = { s with
    windows := s.windows.set w { s.windows[w] with state := .off, settled := [] }
    lanes := s.lanesAbandoned w
    foldQueue := s.foldQueue.filter (fun p => p.uid.window != w)
    fold := s.fold.filter (fun r => !(r.pass.uid.window == w))
    repairQueue := s.repairQueue.filter (s.unitsLeft (fun u => u.window == w))
    repair := s.repair.filter (fun r => !(r.uid.window == w))
    postings := s.postings.filter (fun x => !x.ownedBy (fun u => u.window == w))
    contexts := freeSlots (s.windowContexts w) s.contexts
    freeList := s.freeList ++ (s.windowContexts w).flatMap (fun i => slotGranules s.contexts[i])
    queue := s.queue.filter (fun e => !e.ownedBy (fun u => u.window == w))
    runCount := if s.queue.filter (fun e => !e.ownedBy (fun u => u.window == w)) = [] then 0 else s.runCount
    through := s.through.map (Through.dropRecord w)
    testDue := due } := by
  refine ⟨(s.abandon w).testDue, ?_⟩
  rw [s.abandon_eq, State.foldl_abandonLane, State.abandonStaged, State.foldl_freePass, State.abandonWork_eq,
    State.windowOff_of_waiting _ _ (by exact h)]
  simp only [State.clearMap, State.setWindow, State.discardRecords, State.removeEntries, Vector.set_set, Fin.getElem_fin,
    Vector.getElem_set_self]
  rfl

/-- The buffers an abandon sets free: those of the window's filling, staged and folding passes (R57). -/
def State.EndsBuffer (s : State) (w : Fin 8) (k : Fin 4) (b : Fin 2) : Prop :=
  (∃ g, s.lanes[k].filling = some g ∧ g.uid.window = w ∧ g.buffer = b)
    ∨ (∃ p ∈ s.foldQueue, p.uid.window = w ∧ p.lane = k ∧ p.buffer = b)
    ∨ ∃ r, s.fold = some r ∧ r.pass.uid.window = w ∧ r.pass.lane = k ∧ r.pass.buffer = b

/-- One lane of the table after an abandon: its own part, the staged and folding passes' buffers, and its late run. -/
theorem State.lanesAbandoned_get (k : Fin 4) : ∃ l, (s.lanesAbandoned w)[k] = Lane.dropLate w l
    ∧ (s.lanes[k].abandoned w).Frees l fun b => (∃ p ∈ s.foldQueue, p.uid.window = w ∧ p.lane = k ∧ p.buffer = b)
      ∨ ∃ r, s.fold = some r ∧ r.pass.uid.window = w ∧ r.pass.lane = k ∧ r.pass.buffer = b := by
  have start : (s.lanes.map (Lane.abandoned w))[k] = s.lanes[k].abandoned w := Vector.getElem_map ..
  refine ⟨_, Vector.getElem_map .., ?_⟩
  rw [← start]
  refine ((frees_freeBuffers k _ _).trans ((s.passesAbandoned w).frees_lanesLeft _ k)).congr fun b => ?_
  simp only [List.mem_filter, beq_iff_eq, and_assoc]
  exact Iff.rfl

theorem State.lanesAbandoned_buffer (k : Fin 4) (b : Fin 2) :
    (s.EndsBuffer w k b → (s.lanesAbandoned w)[k].buffer b = .free)
      ∧ (¬ s.EndsBuffer w k b → (s.lanesAbandoned w)[k].buffer b = s.lanes[k].buffer b) := by
  obtain ⟨l, get, frees⟩ := s.lanesAbandoned_get (w := w) k
  obtain ⟨freed, kept⟩ := s.lanes[k].abandoned_buffer (w := w) b
  rw [get, Lane.dropLate_rest.2.2]
  constructor
  · intro hends
    by_cases hp : (∃ p ∈ s.foldQueue, p.uid.window = w ∧ p.lane = k ∧ p.buffer = b)
        ∨ ∃ r, s.fold = some r ∧ r.pass.uid.window = w ∧ r.pass.lane = k ∧ r.pass.buffer = b
    · exact frees.freed b hp
    · rw [frees.kept b hp]
      exact freed (hends.resolve_right hp)
  · intro hends
    rw [frees.kept b fun hp => hends (.inr hp)]
    exact kept fun hf => hends (.inl hf)

theorem State.lanesAbandoned_rest (k : Fin 4) :
    (s.lanes[k].fills w = true → (s.lanesAbandoned w)[k].filling = none ∧ (s.lanesAbandoned w)[k].timer = none)
    ∧ (s.lanes[k].fills w = false →
      (s.lanesAbandoned w)[k].filling = s.lanes[k].filling ∧ (s.lanesAbandoned w)[k].timer = s.lanes[k].timer)
    ∧ (s.lanesAbandoned w)[k].lateRun = if s.lanes[k].runsLate w then none else s.lanes[k].lateRun := by
  obtain ⟨l, get, frees⟩ := s.lanesAbandoned_get (w := w) k
  rw [get, Lane.dropLate_rest.1, Lane.dropLate_rest.2.1, Lane.dropLate_lateRun, Lane.runsLate_congr frees.lateRun, frees.filling,
    frees.timer, frees.lateRun]
  refine ⟨Lane.abandoned_filling, Lane.abandoned_other, ?_⟩
  have late := s.lanes[k].abandoned_lateRun (w := w)
  cases hr : s.lanes[k].runsLate w with
  | true =>
    rw [hr] at late
    rw [late]
    exact ite_self _
  | false =>
    rw [hr] at late
    rw [Lane.runsLate_congr late, hr]
    exact late

theorem State.freeSlots_windowContexts (i : Fin 32) :
    (freeSlots (s.windowContexts w) s.contexts)[i] = if holdsWindow w s.contexts[i] then none else s.contexts[i] := by
  rw [freeSlots_get]
  refine if_congr ?_ rfl rfl
  rw [State.windowContexts, List.mem_filter]
  exact and_iff_right (List.mem_finRange i)

theorem Entry.ownedBy_window (e : Entry) : e.ownedBy (fun u => u.window == w) = (e.owner.map UnitId.window == some w) := by
  unfold Entry.ownedBy
  cases e.owner <;> rfl

theorem Posting.ownedBy_of_window {x : Posting} (h : x.owner.map UnitId.window = some w) :
    x.ownedBy (fun u => u.window == w) = true := by
  unfold Posting.ownedBy
  cases ho : x.owner with
  | none => rw [ho] at h; cases h
  | some u => rw [ho] at h; simpa using h

theorem State.unitsLeft_of_window {i : Fin 32} (h : holdsWindow w s.contexts[i] = true) :
    s.unitsLeft (fun u => u.window == w) i = false := by
  cases hc : s.contexts[i] with
  | none => rw [hc] at h; cases h
  | some c =>
    rw [hc] at h
    rw [State.unitsLeft_of_held hc, show (c.uid.window == w) = true from h]
    rfl

theorem State.abandoned_foldQueue (h : (∀ p ∈ s.foldQueue, p.uid.window = w) ∨ ∃ r, s.fold = some r ∧ r.pass.uid.window ≠ w) :
    (s.fold.filter (fun r => !(r.pass.uid.window == w)) == none && s.foldQueue.filter (fun p => p.uid.window != w) != []) = false := by
  rcases h with h | ⟨r, hr, hw⟩
  · rw [List.filter_eq_nil_iff.mpr fun p hp => by simp [h p hp]]
    exact Bool.and_false _
  · rw [filter_eq_self_of (fun x hx => by rw [hr] at hx; cases hx; simpa using hw), hr]
    rfl

end

/-- Settles O48. -/
theorem abandonWindowEndsItsWork : Obligations.AbandonWindowEndsItsWork := by
  intro s f window w h hw hwait hclosing hpost hback hrepairs hholds htest hfold ended
  obtain ⟨due, fields⟩ := State.abandon_fields (s := { s with frame := none }) (w := w) hwait
  have postings : s.postings.filter (fun x => !x.ownedBy (fun u => u.window == w)) = [] :=
    List.filter_eq_nil_iff.mpr fun x hx => by rw [Posting.ownedBy_of_window (hpost x hx)]; nofun
  have repairQueue : s.repairQueue.filter (s.unitsLeft (fun u => u.window == w)) = [] :=
    List.filter_eq_nil_iff.mpr fun i hi => by rw [State.unitsLeft_of_window (hrepairs i hi)]; nofun
  have queue : s.queue.filter (fun e => !e.ownedBy (fun u => u.window == w))
      = s.queue.filter (fun e => e.owner.map UnitId.window != some w) :=
    List.filter_congr fun e _ => by rw [Entry.ownedBy_window]; rfl
  have quiet : (State.abandon { s with frame := none } w).Quiet := by
    refine .of_parts _ (by rw [fields]; exact hwait) ?_ (by rw [fields]; exact State.abandoned_foldQueue hfold)
      (State.atOnceDrain_of_closing _ fun v => ?_) (State.atOnceBacklog_of_empty _ (by rw [fields]; exact hback))
      (State.feed_of_no_posting _ (by rw [fields]; exact postings))
    · rw [fields]
      refine Bool.and_eq_false_imp.mpr fun _ => bne_eq_false_iff_eq.mpr repairQueue
    · rw [fields]
      by_cases hv : v = w
      · subst hv
        rw [Fin.getElem_fin, Vector.getElem_set_self]
        nofun
      · rw [Fin.getElem_fin, Vector.getElem_set_ne _ _ fun e => hv (Fin.ext e.symm)]
        exact hclosing v hv
  have settled : (State.abandon { s with frame := none } w).settle
      = { State.abandon { s with frame := none } w with testDue := false } := by
    rw [State.settle_of_quiet _ quiet, State.markStalled_of_none _ (by rw [fields]; exact hwait),
      State.testHolds_of_no_hold _ (by rw [fields]; exact hholds)]
  have ran : exec (.abandonWindow window) s
      = .next (State.replied { State.abandon { s with frame := none } w with testDue := false } f 1 .ok []) := by
    refine congrArg Host.Outcome.next ((s.windowCommand_of_listening 1 window w _ f h hw).trans ?_)
    dsimp only
    rw [settled]
  refine ⟨_, ran, ?_⟩
  rw [fields]
  dsimp only [State.replied]
  refine ⟨rfl, fun k b => State.lanesAbandoned_buffer k b, fun k => State.lanesAbandoned_rest k, rfl,
    fun hr => filter_eq_self_of fun r hr' => by simpa using hr r hr', fun r hr hrw => filter_eq_none_of hr (by simpa using hrw),
    repairQueue, fun hr => filter_eq_self_of fun r hr' => by simpa using hr r hr',
    fun r hr hrw => filter_eq_none_of hr (by simpa using hrw), postings, fun i => State.freeSlots_windowContexts i, rfl, queue,
    rfl, ?_, rfl, rfl, rfl, rfl, rfl, rfl, rfl, rfl, rfl, rfl, rfl, rfl⟩
  refine List.map_congr_left fun x _ => ?_
  cases hrec : x.record with
  | none => exact Through.dropRecord_of_none hrec
  | some r => exact Through.dropRecord_of_some hrec

end Sys2Proof.Machine

/-! The ring commands: SET-RING, RING-ENABLE, RING-DISABLE, RING-CONSUMED (R157 to R159, R162, R163). -/

namespace Sys2Proof.Machine

section
variable {s : State} {first past p : Addr}

/-! ### A change of the ring -/

/-- The state with other postings, ring, queue and flags. -/
def State.withRing (s : State) (ring : Ring) (postings : List Posting) (queue : List Entry) (flags : BitVec 12) : State :=
  { s with ring := ring, postings := postings, queue := queue, flags := flags }

section
variable {ring : Ring} {postings : List Posting} {queue : List Entry} {flags : BitVec 12}

theorem State.Still.atOnceDrain_withRing (h : s.Still) : (s.withRing ring postings queue flags).atOnceDrain = none :=
  State.atOnceDrain_mono h.parts.2.2.1 rfl fun _ hc hq => ⟨hc, hq⟩

theorem State.Still.withRing (h : s.Still) (hb : (s.withRing ring postings queue flags).atOnceBacklog = none)
    (hf : (s.withRing ring postings queue flags).feed = none) : (s.withRing ring postings queue flags).Still :=
  ⟨.of_parts _ h.waiting h.parts.1 h.parts.2.1 h.atOnceDrain_withRing hb hf, h.waiting, h.testDue⟩

/-- With the beats, the engines and the drains at rest, the ring and the postings alone act. -/
theorem State.Still.atOnce_withRing (h : s.Still) : (s.withRing ring postings queue flags).atOnce
    = (s.withRing ring postings queue flags).atOnceBacklog.or (s.withRing ring postings queue flags).feed := by
  unfold State.atOnce
  rw [State.atOnceBeats_of_waiting _ (by exact h.waiting), (s.withRing ring postings queue flags).atOnceTake_none.mpr ⟨h.parts.1, h.parts.2.1⟩,
    h.atOnceDrain_withRing]
  rfl

end

/-! ### Setting the ring up -/

theorem State.ringMeets_iff : s.ringMeets first past = true ↔ ∃ w : Fin 8, s.windows[w].state ≠ .off
    ∧ ShareByte (s.profile w).base.toNat ((s.profile w).base.toNat + (s.profile w).span) first.toNat past.toNat := by
  simp [State.ringMeets, meetsRing_iff]

theorem State.setRing_busy (h : s.ring.enabled = true) : s.setRing first past = s.answer .busy [] := if_pos h

theorem State.setRing_refused (h : s.ring.enabled = false) (hr : first.toNat % 16 ≠ 0 ∨ past.toNat % 16 ≠ 0
    ∨ past.toNat < first.toNat + 32 ∨ s.ringMeets first past = true) : s.setRing first past = s.answer .badArg [] :=
  (if_neg (by rw [h]; exact Bool.false_ne_true)).trans (if_pos hr)

theorem State.setRing_taken (h : s.ring.enabled = false) (hr : ¬ (first.toNat % 16 ≠ 0 ∨ past.toNat % 16 ≠ 0
    ∨ past.toNat < first.toNat + 32 ∨ s.ringMeets first past = true)) :
    s.setRing first past = ⟨{ s with ring := { s.ring with first := first, past := past } }, .ok, []⟩ :=
  (if_neg (by rw [h]; exact Bool.false_ne_true)).trans (if_neg hr)

theorem State.enableRing_busy (h : s.ring.enabled = true) : s.enableRing = s.answer .busy [] := if_pos h

theorem State.enableRing_refused (h : s.ring.enabled = false) (hr : s.ring.past.toNat < s.ring.first.toNat + 32) :
    s.enableRing = s.answer .badArg [] :=
  (if_neg (by rw [h]; exact Bool.false_ne_true)).trans (if_pos hr)

theorem State.enableRing_taken (h : s.ring.enabled = false) (hr : s.ring.first.toNat + 32 ≤ s.ring.past.toNat) :
    s.enableRing = ⟨{ s with ring := { s.ring with
      enabled := true, write := s.ring.first, consumed := s.ring.first, sequence := 0 } }, .ok, []⟩ :=
  (if_neg (by rw [h]; exact Bool.false_ne_true)).trans (if_neg (Nat.not_lt.mpr hr))

theorem State.disableRing_off (h : s.ring.enabled = false) : s.disableRing = s.answer .ok [] :=
  if_neg (by rw [h]; exact Bool.false_ne_true)

theorem State.Still.disableRing (h : s.Still) (hr : s.ring.enabled = true) (hp : ∀ x ∈ s.postings, x.poster = .backlog) :
    s.disableRing = ⟨{ s with ring := { s.ring with enabled := false, backlog := [] }, postings := [] }, .ok, []⟩ := by
  have gone : s.postings.filter Posting.notBacklog = [] :=
    List.filter_eq_nil_iff.mpr fun x hx => by rw [Posting.notBacklog, hp x hx]; nofun
  have still : (s.withRing { s.ring with enabled := false, backlog := [] } [] s.queue s.flags).Still :=
    h.withRing (State.atOnceBacklog_of_disabled _ rfl) (State.feed_of_no_posting _ rfl)
  have settled : (s.withRing { s.ring with enabled := false, backlog := [] } [] s.queue s.flags).settle
      = s.withRing { s.ring with enabled := false, backlog := [] } [] s.queue s.flags := still.settle
  unfold State.disableRing
  rw [if_pos hr, gone]
  exact congrArg (fun t => Effect.mk t .ok []) settled

end

section
variable {s : State} {f : Frame}

/-- A command whose effect is known once the frame is set aside. -/
theorem State.command_effect (h : s.Listening f) (args : Nat) (e : State → Effect) {x : Effect}
    (he : e { s with frame := none } = x) : s.command args e = x.state.replied f args x.result x.data := by
  rw [s.command_of_listening args e f h, he]

end

/-- Settles O51. -/
theorem ringSetup : Obligations.RingSetup := by
  intro s f first past h refused
  have refusal : (first.toNat % 16 ≠ 0 ∨ past.toNat % 16 ≠ 0 ∨ past.toNat < first.toNat + 32
      ∨ State.ringMeets { s with frame := none } first past = true) ↔ refused :=
    or_congr_right (or_congr_right (or_congr_right State.ringMeets_iff))
  refine ⟨fun hon => ⟨?_, ?_⟩, fun hoff hr => ?_, fun hoff hr => ?_, fun hoff hr => ?_, fun hoff hr => ?_, fun hoff => ?_,
    fun hon hstill hp => ?_⟩
  · exact congrArg Host.Outcome.next ((State.command_effect h 8 (·.setRing first past) (State.setRing_busy hon)).trans rfl)
  · exact congrArg Host.Outcome.next ((State.command_effect h 0 (·.enableRing) (State.enableRing_busy hon)).trans rfl)
  · exact congrArg Host.Outcome.next
      ((State.command_effect h 8 (·.setRing first past) (State.setRing_refused hoff (refusal.mpr hr))).trans rfl)
  · exact congrArg Host.Outcome.next
      ((State.command_effect h 8 (·.setRing first past) (State.setRing_taken hoff fun e => hr (refusal.mp e))).trans rfl)
  · exact congrArg Host.Outcome.next ((State.command_effect h 0 (·.enableRing) (State.enableRing_refused hoff hr)).trans rfl)
  · exact congrArg Host.Outcome.next ((State.command_effect h 0 (·.enableRing) (State.enableRing_taken hoff hr)).trans rfl)
  · exact congrArg Host.Outcome.next ((State.command_effect h 0 (·.disableRing) (State.disableRing_off hoff)).trans rfl)
  · exact congrArg Host.Outcome.next
      ((State.command_effect h 0 (·.disableRing) (State.Still.disableRing hstill.withoutFrame hon hp)).trans rfl)

/-! ### RING-CONSUMED -/

section
variable {s : State} {p : Addr} {n : Notice} {more : List Notice} {r : Ring}

theorem Ring.consume_busy (h : r.enabled = false) : r.consume p = (.busy, r.consumed) :=
  if_pos (by rw [h]; exact Bool.false_ne_true)

theorem Ring.consume_refused (h : r.enabled = true)
    (hr : p.toNat % 16 ≠ 0 ∨ p.toNat < r.first.toNat ∨ r.past.toNat ≤ p.toNat) : r.consume p = (.badArg, r.consumed) :=
  (if_neg (not_not_intro h)).trans (if_pos hr)

theorem Ring.consume_clamped (h : r.enabled = true)
    (hr : ¬ (p.toNat % 16 ≠ 0 ∨ p.toNat < r.first.toNat ∨ r.past.toNat ≤ p.toNat))
    (hd : r.distance r.consumed r.write < r.distance r.consumed p) : r.consume p = (.clamped, r.write) :=
  (if_neg (not_not_intro h)).trans ((if_neg hr).trans (if_pos hd))

theorem Ring.consume_taken (h : r.enabled = true)
    (hr : ¬ (p.toNat % 16 ≠ 0 ∨ p.toNat < r.first.toNat ∨ r.past.toNat ≤ p.toNat))
    (hd : r.distance r.consumed p ≤ r.distance r.consumed r.write) : r.consume p = (.ok, p) :=
  (if_neg (not_not_intro h)).trans ((if_neg hr).trans (if_neg (Nat.not_lt.mpr hd)))

/-- The state with another consumed pointer. -/
def State.withConsumed (s : State) (p : Addr) : State := s.withRing { s.ring with consumed := p } s.postings s.queue s.flags

theorem State.consumeRing_refused {x : Result} {q : Addr} (h : s.ring.consume p = (x, q)) (hx : x.refused = true) :
    s.consumeRing p = s.answer x (bytes4 q) := by
  unfold State.consumeRing
  rw [h]
  exact if_pos hx

theorem State.consumeRing_moves {x : Result} {q : Addr} (h : s.ring.consume p = (x, q)) (hx : x.refused = false) :
    s.consumeRing p = ⟨(s.withConsumed q).settle, x, bytes4 q⟩ := by
  unfold State.consumeRing
  rw [h]
  exact if_neg (by rw [hx]; exact Bool.false_ne_true)

/-- With an empty backlog a move of the pointer is all there is. -/
theorem State.Still.settle_withConsumed (h : s.Still) (hp : s.postings = []) (hb : s.ring.backlog = []) :
    (s.withConsumed p).settle = s.withConsumed p :=
  (h.withRing (ring := { s.ring with consumed := p }) (State.atOnceBacklog_of_empty _ hb) (State.feed_of_no_posting _ hp)).settle

theorem Ring.not_full_of_moved (hfull : r.full = true) (hp : p ≠ r.consumed) : { r with consumed := p }.full = false := by
  have at_ : r.advance r.write = r.consumed := beq_iff_eq.mp hfull
  exact beq_false_of_ne fun e => hp (e.symm.trans at_)

/-- The backlog posting (R162). -/
def backlogPosting : Posting := ⟨.backlog, none, [.notice]⟩

/-- The state in which a full ring has got room and the backlog posting has begun. -/
def State.movesBacklog (s : State) (p : Addr) : State :=
  s.withRing { s.ring with consumed := p } [backlogPosting] s.queue s.flags

/-- The state in which the backlog's head is placed in the ring (R161, R162). -/
def State.placedBacklog (s : State) (p : Addr) (n : Notice) (more : List Notice) : State :=
  s.withRing { s.ring with
    consumed := p, write := s.ring.advance s.ring.write, sequence := s.ring.sequence + 1, backlog := more } []
    (s.queue ++ [⟨.ring, s.ring.write, quadsOfBytes (n.bytes s.ring.sequence), none, false⟩]) (s.flags ||| 0x100)

theorem State.Still.atOnce_withConsumed (h : s.Still) (hback : s.ring.backlog = n :: more) (hen : s.ring.enabled = true)
    (hfull : s.ring.full = true) (hp : p ≠ s.ring.consumed) (hpost : s.postings = []) :
    (s.withConsumed p).atOnce = some (s.movesBacklog p) := by
  have begins : (s.withConsumed p).atOnceBacklog = some (s.movesBacklog p) := by
    have rests : (s.withConsumed p).movingBacklog = false := by
      rw [State.movingBacklog, show (s.withConsumed p).postings = [] from hpost]
      rfl
    have due : ((s.withConsumed p).ring.enabled && !(s.withConsumed p).ring.full && (s.withConsumed p).ring.backlog != []
        && !(s.withConsumed p).movingBacklog) = true := by
      simp only [Bool.and_eq_true, Bool.not_eq_true', bne_iff_ne]
      exact ⟨⟨⟨hen, Ring.not_full_of_moved hfull hp⟩, fun e => by cases hback.symm.trans e⟩, rests⟩
    unfold State.atOnceBacklog
    rw [if_pos due]
    exact congrArg (fun x => some (s.withRing { s.ring with consumed := p } (x ++ [backlogPosting]) s.queue s.flags)) hpost
  rw [State.withConsumed, h.atOnce_withRing]
  exact congrArg (fun o => Option.or o _) begins

theorem State.movesBacklog_atOnceBacklog : (s.movesBacklog p).atOnceBacklog = none := by
  unfold State.atOnceBacklog
  exact if_neg (by rw [show (s.movesBacklog p).movingBacklog = true from rfl]; simp)

theorem State.moveBacklog_of_full (hb : s.ring.backlog = n :: more) (hq : 16 ≤ s.queue.length) : s.moveBacklog = none := by
  unfold State.moveBacklog
  rw [hb]
  exact if_neg (by rw [s.queueHasRoom_of_full hq]; exact Bool.false_ne_true)

theorem State.moveBacklog_of_room (hb : s.ring.backlog = n :: more) (hq : s.queue.length < 16) :
    s.moveBacklog = some ({ s with ring := { s.ring with backlog := more } }.placeNotice n) := by
  unfold State.moveBacklog
  rw [hb]
  exact if_pos (s.queueHasRoom_of_lt hq)

/-- Behind a full queue the backlog's head waits. -/
theorem State.feed_of_backlogWaiting (hs : s.postings = [backlogPosting]) (hb : s.ring.backlog = n :: more)
    (hq : 16 ≤ s.queue.length) : s.feed = none := by
  unfold State.feed
  rw [hs]
  dsimp only [backlogPosting]
  rw [show s.takeStep ⟨.backlog, none, [.notice]⟩ .notice = none from State.moveBacklog_of_full hb hq]

theorem State.movesBacklog_feed (hb : s.ring.backlog = n :: more) (hq : s.queue.length < 16) :
    (s.movesBacklog p).feed = some (s.placedBacklog p n more) := by
  rw [State.feed_last (s := s.movesBacklog p) (x := backlogPosting) rfl rfl (State.moveBacklog_of_room hb hq)]
  unfold State.placedBacklog State.placeNotice State.movesBacklog
  congr 2

theorem State.placedBacklog_full (hfull : s.ring.full = true) (hp : p = s.ring.advance s.ring.consumed) :
    (s.placedBacklog p n more).ring.full = true := by
  have write : s.ring.advance s.ring.write = s.ring.consumed := beq_iff_eq.mp hfull
  refine beq_iff_eq.mpr ?_
  change s.ring.advance (s.ring.advance s.ring.write) = p
  rw [write, hp]

theorem State.atOnceBacklog_of_ringFull (h : s.ring.full = true) : s.atOnceBacklog = none := by
  unfold State.atOnceBacklog
  exact if_neg (by rw [h]; simp)

theorem State.placedBacklog_atOnceBacklog (hfull : s.ring.full = true) (h : more = [] ∨ p = s.ring.advance s.ring.consumed) :
    (s.placedBacklog p n more).atOnceBacklog = none := by
  rcases h with h | h
  · exact State.atOnceBacklog_of_empty _ h
  · exact State.atOnceBacklog_of_ringFull (State.placedBacklog_full hfull h)

/-- A full ring that gets room takes the backlog's head, and the event ends with it placed. -/
theorem State.Still.settle_placedBacklog (h : s.Still) (hback : s.ring.backlog = n :: more) (hen : s.ring.enabled = true)
    (hfull : s.ring.full = true) (hp : p ≠ s.ring.consumed) (hpost : s.postings = []) (hq : s.queue.length < 16)
    (hmore : more = [] ∨ p = s.ring.advance s.ring.consumed) : (s.withConsumed p).settle = s.placedBacklog p n more := by
  have still : (s.placedBacklog p n more).Still :=
    h.withRing (State.placedBacklog_atOnceBacklog hfull hmore) (State.feed_of_no_posting _ rfl)
  refine still.settle_two_steps (k := 0) (joined := []) (h.atOnce_withConsumed hback hen hfull hp hpost) ?_
    (List.append_nil _).symm nofun
  rw [State.movesBacklog, h.atOnce_withRing]
  exact (congrArg (fun o => Option.or o _) State.movesBacklog_atOnceBacklog).trans (State.movesBacklog_feed hback hq)

/-- Behind a full queue the event ends with the posting in progress. -/
theorem State.Still.settle_movesBacklog (h : s.Still) (hback : s.ring.backlog = n :: more) (hen : s.ring.enabled = true)
    (hfull : s.ring.full = true) (hp : p ≠ s.ring.consumed) (hpost : s.postings = []) (hq : 16 ≤ s.queue.length) :
    (s.withConsumed p).settle = s.movesBacklog p := by
  have still : (s.movesBacklog p).Still :=
    h.withRing State.movesBacklog_atOnceBacklog (State.feed_of_backlogWaiting rfl hback hq)
  exact still.settle_step (k := 0) (joined := []) (h.atOnce_withConsumed hback hen hfull hp hpost) (List.append_nil _).symm nofun

end

/-- Settles O52. -/
theorem ringConsumedMovesThePointer : Obligations.RingConsumedMovesThePointer := by
  intro s f p h along wrong
  have effect : ∀ {x : Effect}, State.consumeRing { s with frame := none } p = x →
      exec (.ringConsumed p) s = .next (x.state.replied f 4 x.result x.data) :=
    fun he => congrArg Host.Outcome.next (State.command_effect h 4 (·.consumeRing p) he)
  have moved : ∀ {q : Addr} {x : Result} {t : State}, s.ring.consume p = (x, q) → x.refused = false →
      (State.withConsumed { s with frame := none } q).settle = t → exec (.ringConsumed p) s = .next (t.replied f 4 x (bytes4 q)) := by
    intro q x t hc hx ht
    rw [effect (State.consumeRing_moves hc hx), ht]
  refine ⟨fun hoff => ?_, fun hon hr => ?_, fun hon hr hd hstill hpost hback => ?_, fun hon hr hd hstill hpost hback => ?_,
    fun n more hon hr hd hp hfull hstill hpost hback => ⟨fun hq hmore => ?_, fun hq => ?_⟩⟩
  · exact (effect (State.consumeRing_refused (Ring.consume_busy hoff) rfl)).trans rfl
  · exact (effect (State.consumeRing_refused (Ring.consume_refused hon hr) rfl)).trans rfl
  · exact (moved (Ring.consume_clamped hon hr hd) rfl (hstill.withoutFrame.settle_withConsumed hpost hback)).trans rfl
  · exact (moved (Ring.consume_taken hon hr hd) rfl (hstill.withoutFrame.settle_withConsumed hpost hback)).trans rfl
  · exact (moved (Ring.consume_taken hon hr hd) rfl
      (hstill.withoutFrame.settle_placedBacklog hback hon hfull hp hpost hq hmore)).trans
      (congrArg (fun ps => Host.Outcome.next (State.replied { s.placedBacklog p n more with postings := ps } f 4 .ok (bytes4 p)))
        hpost.symm)
  · exact (moved (Ring.consume_taken hon hr hd) rfl
      (hstill.withoutFrame.settle_movesBacklog hback hon hfull hp hpost hq)).trans rfl

end Sys2Proof.Machine

/-! One command in a frame (R170, R173, R174), and the bytes that spell it (R175). -/

namespace Sys2Proof.Machine

/-! ### Without a listening frame -/

/-- A maintenance command other than CORE-RESET is a command in the frame. -/
theorem exec_eq_command {c : Instr} (h : isMaintenance c = true) (hc : c ≠ .coreReset) :
    ∃ args e, ∀ s, exec c s = .next (State.command s args e) := by
  cases c with
  | requestTake _ | grant | throughResponse _ _ | writeBackAnswer _ | idleExpiry _ | holdExpiry _ | foldStart | settleEvaluation
  | entryEntersQueue | noticeAccepted | repairTake | endOfSearching | frameEnd | pinResetAssert | pinResetDeassert _ | ready
  | frameOpen | timebaseTick => cases h
  | coreReset => exact absurd rfl hc
  | badcmd code => exact ⟨_, _, fun _ => if_pos h⟩
  | readStatus | readFlags | clearFlags _ | setEnables _ | writeProfile _ _ _ | readProfile _ _ | openWindow _ | closeWindow _
  | abandonWindow _ | readCounters _ | clearCounters _ | queryUnit _ _ | reopenUnit _ _ | setRing _ _ | ringEnable | ringDisable
  | ringConsumed _ | readRing | readFault | clearFault => exact ⟨_, _, fun _ => rfl⟩

section
variable {s : State}

theorem State.command_of_deaf (h : s.frame = none ∨ ∃ f r, s.frame = some f ∧ f.reply = some r) (args : Nat) (e : State → Effect) :
    s.command args e = s := by
  rcases h with h | ⟨f, r, hf, hr⟩
  · exact s.command_of_no_frame args e h
  · exact s.command_of_replied args e f r hf hr

theorem exec_coreReset_of_deaf (h : s.frame = none ∨ ∃ f r, s.frame = some f ∧ f.reply = some r) :
    exec .coreReset s = .next s := by
  change execCoreReset s = _
  unfold execCoreReset
  rcases h with h | ⟨f, r, hf, hr⟩
  · rw [h]
  · rw [hf]
    dsimp only
    rw [hr]

/-- No maintenance command has an effect without a frame that listens. -/
theorem exec_of_deaf {c : Instr} (hc : isMaintenance c = true)
    (h : s.frame = none ∨ ∃ f r, s.frame = some f ∧ f.reply = some r) : exec c s = .next s := by
  by_cases hreset : c = .coreReset
  · rw [hreset, exec_coreReset_of_deaf h]
  · obtain ⟨args, e, hexec⟩ := exec_eq_command hc hreset
    rw [hexec, State.command_of_deaf h]

end

/-! ### The bytes of a command -/

theorem word16_bytesOf16 (x : BitVec 16) : word16 (x.setWidth 8) ((x >>> 8).setWidth 8) = x := by
  refine BitVec.eq_of_getLsbD_eq fun i hi => ?_
  simp only [word16, BitVec.getLsbD_append, BitVec.getLsbD_setWidth, BitVec.getLsbD_ushiftRight]
  by_cases h : i < 8
  · simp [h]
  · have : i - 8 < 8 := by omega
    have : 8 + (i - 8) = i := by omega
    simp [*]

theorem word32_bytesOf32 (x : BitVec 32) :
    word32 (x.setWidth 8) ((x >>> 8).setWidth 8) ((x >>> 16).setWidth 8) ((x >>> 24).setWidth 8) = x := by
  refine BitVec.eq_of_getLsbD_eq fun i hi => ?_
  simp only [word32, BitVec.getLsbD_append, BitVec.getLsbD_setWidth, BitVec.getLsbD_ushiftRight]
  by_cases h0 : i < 8
  · simp [h0]
  by_cases h1 : i - 8 < 8
  · simp [h0, h1, show 8 + (i - 8) = i by omega]
  by_cases h2 : i - 8 - 8 < 8
  · simp [h0, h1, h2, show 16 + (i - 8 - 8) = i by omega]
  · simp [h0, h1, h2, show i - 8 - 8 - 8 < 8 by omega, show 24 + (i - 8 - 8 - 8) = i by omega]

/-- A known code with its argument bytes: they spell the command, and fewer argument bytes spell none. -/
theorem decodeFrame_known {code : Byte} {args : List Byte} {c : Instr} (hcode : codeUnknown code = false)
    (h : knownCommand code.toNat args = some c) (hfewer : ∀ n, n < args.length → knownCommand code.toNat (args.take n) = none) :
    decodeFrame (code :: args) = some c
      ∧ ∀ n, n < (code :: args).length → decodeFrame ((code :: args).take n) = none := by
  have known : ∀ bytes, decodeFrame (code :: bytes) = knownCommand code.toNat bytes :=
    fun bytes => if_neg (by rw [hcode]; exact Bool.false_ne_true)
  refine ⟨(known args).trans h, fun n hn => ?_⟩
  cases n with
  | zero => rfl
  | succ n =>
    rw [List.take_succ_cons, known]
    exact hfewer n (Nat.lt_of_succ_lt_succ hn)

/-- The bytes of a command spell it, and no fewer of them spell any. -/
theorem decodeFrame_frameBytes {c : Instr} (h : isMaintenance c = true) :
    decodeFrame c.frameBytes = some c ∧ ∀ n, n < c.frameBytes.length → decodeFrame (c.frameBytes.take n) = none := by
  cases c with
  | requestTake _ | grant | throughResponse _ _ | writeBackAnswer _ | idleExpiry _ | holdExpiry _ | foldStart | settleEvaluation
  | entryEntersQueue | noticeAccepted | repairTake | endOfSearching | frameEnd | pinResetAssert | pinResetDeassert _ | ready
  | frameOpen | timebaseTick => cases h
  | badcmd code =>
    have unknown : codeUnknown code = true := h
    refine ⟨?_, fun n hn => ?_⟩
    · exact (if_pos unknown).trans (if_pos rfl)
    · rw [Nat.lt_one_iff.mp hn]
      rfl
  | readStatus | readFlags | ringEnable | ringDisable | readRing | readFault | clearFault | coreReset =>
    exact decodeFrame_known (by decide) rfl fun n hn => absurd hn (Nat.not_lt_zero n)
  | openWindow _ | closeWindow _ | abandonWindow _ | readCounters _ | clearCounters _ =>
    refine decodeFrame_known (by decide) rfl fun n hn => ?_
    rw [Nat.lt_one_iff.mp hn]
    rfl
  | readProfile window field =>
    refine decodeFrame_known (by decide) rfl fun n (hn : n < 2) => ?_
    interval_cases n <;> rfl
  | clearFlags mask =>
    refine decodeFrame_known (by decide) (congrArg (some ∘ Instr.clearFlags) (word16_bytesOf16 mask)) fun n (hn : n < 2) => ?_
    interval_cases n <;> rfl
  | setEnables value =>
    refine decodeFrame_known (by decide) (congrArg (some ∘ Instr.setEnables) (word16_bytesOf16 value)) fun n (hn : n < 2) => ?_
    interval_cases n <;> rfl
  | queryUnit window unit =>
    refine decodeFrame_known (by decide) (congrArg (some ∘ Instr.queryUnit window) (word16_bytesOf16 unit)) fun n (hn : n < 3) => ?_
    interval_cases n <;> rfl
  | reopenUnit window unit =>
    refine decodeFrame_known (by decide) (congrArg (some ∘ Instr.reopenUnit window) (word16_bytesOf16 unit))
      fun n (hn : n < 3) => ?_
    interval_cases n <;> rfl
  | writeProfile window field value =>
    refine decodeFrame_known (by decide) (congrArg (some ∘ Instr.writeProfile window field) (word32_bytesOf32 value))
      fun n (hn : n < 6) => ?_
    interval_cases n <;> rfl
  | ringConsumed pointer =>
    refine decodeFrame_known (by decide) (congrArg (some ∘ Instr.ringConsumed) (word32_bytesOf32 pointer)) fun n (hn : n < 4) => ?_
    interval_cases n <;> rfl
  | setRing first past =>
    refine decodeFrame_known (by decide)
      (congrArg₂ (fun a b => some (Instr.setRing a b)) (word32_bytesOf32 first) (word32_bytesOf32 past)) fun n (hn : n < 8) => ?_
    interval_cases n <;> rfl

/-- Settles O53. -/
theorem oneCommandPerFrame : Obligations.OneCommandPerFrame := by
  refine ⟨fun c s hc h => exec_of_deaf hc h, fun s f window id v unit h hw => ?_, fun s f code h hcode => ?_,
    fun c hc => decodeFrame_frameBytes hc⟩
  · have refused : ∀ args e, (.next (s.windowCommand args window e) : Host.Outcome State Fault Refusal) = .next (s.replied f args .badWin []) :=
      fun args e => congrArg _ (s.windowCommand_of_badWindow args window e f h hw)
    exact ⟨refused 6 _, refused 2 _, refused 1 _, refused 1 _, refused 1 _, refused 1 _, refused 1 _, refused 3 _, refused 3 _⟩
  · exact (if_pos hcode).trans (congrArg _ (State.command_answer h 0 (fun _ => .badCmd) fun _ => []))

end Sys2Proof.Machine

/-! The edges of MSEL and MCLK, and the bits of a frame (R169 to R171, R173, R180). -/

namespace Sys2Proof.Machine

/-! ### The status byte -/

/-- A byte of eight marks has each mark at its place. -/
theorem byteOf_marks : ∀ b7 b6 b5 b4 b3 b2 b1 b0 : Bool,
    let byte := byteOf (128 * b7.toNat + 64 * b6.toNat + 32 * b5.toNat + 16 * b4.toNat + 8 * b3.toNat + 4 * b2.toNat
      + 2 * b1.toNat + b0.toNat)
    byte.getLsbD 7 = b7 ∧ byte.getLsbD 6 = b6 ∧ byte.getLsbD 5 = b5 ∧ byte.getLsbD 4 = b4 ∧ byte.getLsbD 3 = b3
      ∧ byte.getLsbD 2 = b2 ∧ byte.getLsbD 1 = b1 ∧ byte.getLsbD 0 = b0 := by
  decide

/-- The byte of eight bits sampled one after the other, most significant first. -/
theorem byteOfBits_bits : ∀ b7 b6 b5 b4 b3 b2 b1 b0 : Bool,
    (List.range 8).map (fun i => (byteOfBits [b7, b6, b5, b4, b3, b2, b1, b0]).getLsbD (7 - i)) = [b7, b6, b5, b4, b3, b2, b1, b0] := by
  decide

section
variable {s : State} {f : Frame}

theorem State.anyClosing_iff : s.anyClosing = true ↔ ∃ w : Fin 8, s.windows[w].state = .closing := by
  simp [State.anyClosing]

/-! ### Edges of MSEL -/

theorem exec_frameOpen_of_high (hr : s.run = .ready) (hm : s.mselLow = false) :
    exec .frameOpen s = .next { s with mselLow := true, frame := some ⟨s.statusByte, none, false, [], [], 0⟩ } :=
  (if_neg (by rw [hm]; exact Bool.false_ne_true)).trans (if_pos (by rw [hr]; rfl))

theorem exec_frameEnd_of_low (hm : s.mselLow = true) (hf : ∀ f, s.frame = some f → f.coreReset = false) :
    exec .frameEnd s = .next { s with mselLow := false, frame := none } := by
  have due : s.coreResetDue = false := by
    unfold State.coreResetDue
    cases h : s.frame with
    | none => rfl
    | some f => exact hf f h
  exact (if_pos hm).trans (if_neg (by rw [due]; exact Bool.false_ne_true))

/-! ### Edges of MCLK -/

theorem State.clock_of_no_frame (h : s.frame = none) (e : MclkEdge) : s.clock e = (s, none) := by
  unfold State.clock
  rw [h]

theorem State.clock_fall (h : s.frame = some f) : s.clock .fall = ({ s with frame := some f.clockOut }, none) := by
  unfold State.clock
  rw [h]

theorem State.clock_rise (h : s.frame = some f) (mdi : Bool) :
    s.clock (.rise mdi) = ({ s with frame := some (f.clockIn mdi).1 }, (f.clockIn mdi).2) := by
  unfold State.clock
  rw [h]

theorem Frame.clockIn_of_reply (h : f.reply ≠ none) (mdi : Bool) : f.clockIn mdi = (f, none) := by
  unfold Frame.clockIn
  cases hr : f.reply with
  | none => exact absurd hr h
  | some r => rfl

theorem Frame.clockIn_bit (h : f.reply = none) (hb : f.shift.length < 7) (mdi : Bool) :
    f.clockIn mdi = ({ f with shift := f.shift ++ [mdi] }, none) := by
  unfold Frame.clockIn
  rw [h]
  exact if_pos (by rw [List.length_append]; exact Nat.succ_lt_succ hb)

theorem Frame.clockIn_byte (h : f.reply = none) (hb : f.shift.length = 7) (mdi : Bool) :
    f.clockIn mdi = ({ f with shift := [], received := f.received ++ [byteOfBits (f.shift ++ [mdi])] },
      decodeFrame (f.received ++ [byteOfBits (f.shift ++ [mdi])])) := by
  unfold Frame.clockIn
  rw [h]
  exact if_neg (by rw [List.length_append, hb]; exact Nat.lt_irrefl 8)

section
variable {e : MclkEdge} {rest : List MclkEdge} {t : State}

/-- A step that deals with an edge which completes no command. -/
theorem step_of_edge (hp : s.pending = []) (hm : s.mclk = e :: rest)
    (hc : State.clock { s with mclk := rest } e = (t, none)) : step s = .next t := by
  unfold step
  rw [hp]
  dsimp only
  unfold State.goOn
  rw [hm]
  dsimp only
  rw [hc]

/-- A step that deals with an edge which completes a command. -/
theorem step_of_command {c : Instr} (hp : s.pending = []) (hm : s.mclk = e :: rest)
    (hc : State.clock { s with mclk := rest } e = (t, some c)) : step s = exec c t := by
  unfold step
  rw [hp]
  dsimp only
  unfold State.goOn
  rw [hm]
  dsimp only
  rw [hc]

end

/-! ### Bytes out -/

theorem Frame.outByte_zero : f.outByte 0 = f.status := if_pos rfl

theorem Frame.outByte_of_reply {r : Reply} (h : f.reply = some r) {i : Nat} (hi : i ≠ 0) :
    f.outByte i = if i ≤ r.args then 0 else r.bytes.getD (i - r.args - 1) 0 := by
  unfold Frame.outByte
  rw [if_neg hi, h]

theorem Frame.outByte_argument {r : Reply} (h : f.reply = some r) {i : Nat} (hi : 1 ≤ i) (ha : i ≤ r.args) : f.outByte i = 0 := by
  rw [Frame.outByte_of_reply h (by omega), if_pos ha]

theorem Frame.outByte_result {r : Reply} (h : f.reply = some r) : f.outByte (r.args + 1) = BitVec.ofNat 8 r.result.code := by
  rw [Frame.outByte_of_reply h (by omega), if_neg (by omega), show r.args + 1 - r.args - 1 = 0 by omega]
  rfl

theorem Frame.outByte_data {r : Reply} (h : f.reply = some r) (i : Nat) : f.outByte (r.args + 2 + i) = r.data.getD i 0 := by
  rw [Frame.outByte_of_reply h (by omega), if_neg (by omega), show r.args + 2 + i - r.args - 1 = i + 1 by omega]
  rfl

end

/-- Settles O54. -/
theorem frameEdges : Obligations.FrameEdges := by
  refine ⟨fun s hr hm => ?_, fun s hm hf => exec_frameEnd_of_low hm hf, fun s hm => if_pos hm, fun s hm => ?_,
    fun s e rest hp hm hf => ?_, fun s f mdi rest hp hm hf => ⟨fun hrep => ?_, fun hrep hb => ?_, ?_⟩,
    fun s f rest hp hm hf => ?_, fun s => ⟨fun hf => ?_, fun f hf => ?_⟩⟩
  · obtain ⟨attn, closing, queue, repair, backlog, fault, refused, since⟩ := byteOf_marks s.attnLow s.anyClosing
      (decide (Config.queueHigh ≤ s.queue.length)) s.repair.isSome (!s.ring.backlog.isEmpty) s.faultRecord.isSome s.lastRefused
      s.resetSince
    refine ⟨s.statusByte, exec_frameOpen_of_high hr hm, attn, ?_, ?_, repair, ?_, fault, refused, since⟩
    · exact (Bool.eq_iff_iff.mp closing).trans State.anyClosing_iff
    · exact (Bool.eq_iff_iff.mp queue).trans decide_eq_true_iff
    · refine (Bool.eq_iff_iff.mp backlog).trans ?_
      simp
  · exact if_neg (by rw [hm]; exact Bool.false_ne_true)
  · exact step_of_edge hp hm (State.clock_of_no_frame (s := { s with mclk := rest }) hf e)
  · have clocked := State.clock_rise (s := { s with mclk := rest }) hf mdi
    rw [Frame.clockIn_of_reply hrep] at clocked
    exact step_of_edge hp hm (clocked.trans (congrArg (fun fr => ({ s with mclk := rest, frame := fr }, none)) hf.symm))
  · have clocked := State.clock_rise (s := { s with mclk := rest }) hf mdi
    rw [Frame.clockIn_bit hrep hb] at clocked
    exact step_of_edge hp hm clocked
  · intro b7 b6 b5 b4 b3 b2 b1 hrep hshift
    refine ⟨byteOfBits [b7, b6, b5, b4, b3, b2, b1, mdi], byteOfBits_bits b7 b6 b5 b4 b3 b2 b1 mdi, ?_⟩
    have clocked := State.clock_rise (s := { s with mclk := rest }) hf mdi
    rw [Frame.clockIn_byte hrep (by rw [hshift]; rfl), hshift] at clocked
    intro t
    cases hd : decodeFrame (f.received ++ [byteOfBits [b7, b6, b5, b4, b3, b2, b1, mdi]]) with
    | none => exact step_of_edge hp hm (clocked.trans (congrArg _ hd))
    | some c => exact step_of_command hp hm (clocked.trans (congrArg _ hd))
  · exact step_of_edge hp hm (State.clock_fall (s := { s with mclk := rest }) hf)
  · unfold State.mdo
    rw [hf]
    rfl
  · refine ⟨?_, Frame.outByte_zero, fun i r hr => ⟨Frame.outByte_argument hr, Frame.outByte_result hr, Frame.outByte_data hr i⟩⟩
    unfold State.mdo
    rw [hf]
    rfl

end Sys2Proof.Machine

/-! CORE-RESET and the pieces it lets go on at the end of its frame (R11, R12, R21, R178). -/

namespace Sys2Proof.Machine

/-! ### Stalled writes whose beats all lie outside -/

/-- The piece of a stalled write whose beats all lie outside. -/
def Active.outsidePiece (a : Active) : Option Through :=
  match a.waiting with
  | [] => none
  | b :: more => some ⟨a.initiator, b.addr, .write ((b :: more).map WaitingBeat.beat), none⟩

/-- The write when that piece has been forwarded. -/
def Active.sentOutside (a : Active) : Active :=
  if a.waiting = [] then a else { a with waiting := [], inFlight := a.inFlight + 1, stalled := false }

section
variable {a : Active} {b : WaitingBeat} {more : List WaitingBeat}

theorem Active.outsidePiece_of_none (h : a.waiting = []) : a.outsidePiece = none := by
  unfold Active.outsidePiece
  rw [h]

theorem Active.outsidePiece_of_some (h : a.waiting = b :: more) :
    a.outsidePiece = some ⟨a.initiator, b.addr, .write ((b :: more).map WaitingBeat.beat), none⟩ := by
  unfold Active.outsidePiece
  rw [h]

theorem Active.outsidePiece_initiator {x : Through} (h : a.outsidePiece = some x) : x.initiator = a.initiator := by
  cases hw : a.waiting with
  | nil => rw [Active.outsidePiece_of_none hw] at h; cases h
  | cons b more => rw [Active.outsidePiece_of_some hw] at h; cases h; rfl

theorem Active.sentOutside_of_none (h : a.waiting = []) : a.sentOutside = a := if_pos h

theorem Active.sentOutside_of_some (h : a.waiting ≠ []) :
    a.sentOutside = { a with waiting := [], inFlight := a.inFlight + 1, stalled := false } := if_neg h

theorem Active.sentOutside_initiator : a.sentOutside.initiator = a.initiator := by
  unfold Active.sentOutside
  split <;> rfl

theorem Active.sentOutside_waiting : a.sentOutside.waiting = [] := by
  by_cases h : a.waiting = []
  · rw [Active.sentOutside_of_none h, h]
  · rw [Active.sentOutside_of_some h]

/-- A write that was classified again keeps its beats. -/
theorem Active.allOutside_outsidePiece : a.allOutside.outsidePiece = a.outsidePiece := by
  cases hw : a.waiting with
  | nil =>
    rw [Active.outsidePiece_of_none hw, Active.outsidePiece_of_none]
    rw [Active.allOutside, hw]
    rfl
  | cons b more =>
    have again : a.allOutside.waiting = b.toOutside :: more.map WaitingBeat.toOutside := by
      rw [Active.allOutside, hw]
      rfl
    have beats : (more.map WaitingBeat.toOutside).map WaitingBeat.beat = more.map WaitingBeat.beat := by
      rw [List.map_map]
      rfl
    rw [Active.outsidePiece_of_some hw, Active.outsidePiece_of_some again, List.map_cons, List.map_cons, beats]
    rfl

theorem Active.allOutside_of_none (h : a.waiting = []) : a.allOutside = a := by
  unfold Active.allOutside
  rw [h, List.map_nil, ← h]

theorem Active.allOutside_sentOutside : a.allOutside.sentOutside = a.sentOutside := by
  by_cases h : a.waiting = []
  · rw [Active.allOutside_of_none h]
  · rw [Active.sentOutside_of_some h, Active.sentOutside_of_some fun e => h (List.map_eq_nil_iff.mp e)]
    rfl

theorem Active.allOutside_cls {c : WaitingBeat} (h : c ∈ a.allOutside.waiting) : c.cls = .outside := by
  obtain ⟨d, -, rfl⟩ := List.mem_map.mp h
  rfl

end

/-! ### One piece -/

section
variable {t : State} {l m : List Active} {a : Active}

theorem modify_middle (hl : NotAmong a.initiator l) (hm : NotAmong a.initiator m) (f : Active → Active) :
    (l ++ a :: m).map (fun y => if y.initiator = a.initiator then f y else y) = l ++ f a :: m := by
  have others : ∀ n : List Active, NotAmong a.initiator n → n.map (fun y => if y.initiator = a.initiator then f y else y) = n :=
    fun n hn => (List.map_congr_left fun y hy => if_neg (hn y hy)).trans (List.map_id _)
  rw [List.map_append, List.map_cons, others l hl, others m hm, if_pos rfl]

/-- The state when the first stalled write has sent its piece. -/
def State.sends (t : State) (l m : List Active) (a : Active) : State :=
  { t with through := t.through ++ a.outsidePiece.toList, active := l ++ a.sentOutside :: m }

/-- A write whose beats all lie outside forwards them as one piece. -/
theorem State.advance_outside (hactive : t.active = l ++ a :: m) (hl : NotAmong a.initiator l) (hm : NotAmong a.initiator m)
    (hw : a.waiting ≠ []) (ho : ∀ c ∈ a.waiting, c.cls = .outside) : t.advance a = some (t.sends l m a) := by
  obtain ⟨b, more, hb⟩ := List.exists_cons_of_ne_nil hw
  rw [hb] at ho
  obtain ⟨hcls, hmore⟩ := List.forall_mem_cons.mp ho
  have piece : nextPiece b more = b :: more := by
    unfold nextPiece
    rw [List.takeWhile_eq_self_iff.mpr fun c hc => by rw [hcls, hmore c hc]; rfl]
  have plain : overridden b (b :: more) = none := by
    unfold overridden
    rw [hcls]
  have after : a.afterBeats (b :: more).length 1 = a.sentOutside := by
    rw [Active.sentOutside_of_some hw]
    unfold Active.afterBeats
    rw [hb, List.drop_length]
    simp
  have sent : (t.joinThrough ⟨a.initiator, b.addr, .write ((b :: more).map WaitingBeat.beat), none⟩).dealt a (b :: more).length 1
      = t.sends l m a := by
    change (State.modifyActive _ a.initiator (fun _ => a.afterBeats (b :: more).length 1)).answerIfDone
      (a.afterBeats (b :: more).length 1) = _
    rw [State.answerIfDone, if_neg (by simp [Active.afterBeats]), State.modifyActive]
    dsimp only [State.joinThrough]
    rw [hactive, modify_middle hl hm, after, State.sends, Active.outsidePiece_of_some hb]
    rfl
  unfold State.advance
  rw [hb]
  dsimp only
  rw [hcls]
  dsimp only
  unfold State.forwardPiece
  dsimp only
  rw [piece, plain]
  dsimp only
  rw [sent]

theorem State.atOnce_outside (hactive : t.active = l ++ a :: m) (hl : NotAmong a.initiator l) (hm : NotAmong a.initiator m)
    (hdone : ∀ y ∈ l, y.waiting = []) (hw : a.waiting ≠ []) (ho : ∀ c ∈ a.waiting, c.cls = .outside) :
    t.atOnce = some (t.sends l m a) := by
  refine State.atOnce_of_beats ?_
  unfold State.atOnceBeats
  rw [hactive, List.findSome?_append, List.findSome?_eq_none_iff.mpr fun y hy => t.advance_nil y (hdone y hy),
    List.findSome?_cons, State.advance_outside hactive hl hm hw ho]
  rfl

end

/-! ### All pieces, the write taken first first -/

/-- The state when every stalled write of `m` has sent its piece. -/
def State.sendsAll (t : State) (l m : List Active) : State :=
  { t with through := t.through ++ m.filterMap Active.outsidePiece, active := l ++ m.map Active.sentOutside }

theorem notAmong_of_distinct {l m : List Active} {a : Active} (h : ((l ++ a :: m).map Active.initiator).Nodup) :
    NotAmong a.initiator l ∧ NotAmong a.initiator m := by
  rw [List.map_append, List.map_cons] at h
  obtain ⟨-, later, apart⟩ := List.nodup_append.mp h
  refine ⟨fun y hy => apart _ (List.mem_map_of_mem hy) _ List.mem_cons_self, fun y hy e => ?_⟩
  exact (List.nodup_cons.mp later).1 (e ▸ List.mem_map_of_mem hy)

theorem State.drive_outside : ∀ (m l : List Active) (t : State) (n : Nat), t.active = l ++ m → ((l ++ m).map Active.initiator).Nodup →
    (∀ y ∈ l, y.waiting = []) → (∀ y ∈ m, ∀ c ∈ y.waiting, c.cls = .outside) → m.length ≤ n → (t.sendsAll l m).Quiet →
    State.drive n t = t.sendsAll l m
  | [], l, t, n, hactive, _, _, _, _, hq => by
    have same : t.sendsAll l [] = t := by
      rw [List.append_nil] at hactive
      unfold State.sendsAll
      rw [List.filterMap_nil, List.map_nil, List.append_nil, List.append_nil, ← hactive]
    rw [same] at hq ⊢
    exact t.drive_of_quiet n hq
  | a :: m, l, t, n, hactive, hdistinct, hdone, ho, hn, hq => by
    obtain ⟨hoa, hom⟩ := List.forall_mem_cons.mp ho
    rw [List.length_cons] at hn
    by_cases hw : a.waiting = []
    · have same : t.sendsAll l (a :: m) = t.sendsAll (l ++ [a]) m := by
        unfold State.sendsAll
        rw [List.filterMap_cons_none (Active.outsidePiece_of_none hw), List.map_cons, Active.sentOutside_of_none hw,
          List.append_assoc]
        rfl
      rw [same] at hq ⊢
      exact State.drive_outside m (l ++ [a]) t n (by rw [hactive, List.append_assoc]; rfl)
        (by rw [List.append_assoc]; exact hdistinct) (waiting_append hdone hw) hom (by omega) hq
    · have sent : (t.sends l m a).sendsAll (l ++ [a.sentOutside]) m = t.sendsAll l (a :: m) := by
        obtain ⟨b, more, hb⟩ := List.exists_cons_of_ne_nil hw
        unfold State.sends State.sendsAll
        dsimp only
        rw [List.filterMap_cons_some (Active.outsidePiece_of_some hb), Active.outsidePiece_of_some hb, List.map_cons,
          List.append_assoc, List.append_assoc]
        rfl
      obtain ⟨hl, hm⟩ := notAmong_of_distinct hdistinct
      obtain ⟨n, rfl⟩ := Nat.exists_eq_add_of_lt (Nat.lt_of_lt_of_le (Nat.succ_pos _) hn)
      rw [← sent] at hq ⊢
      rw [Nat.zero_add, State.drive_step _ t _ (State.atOnce_outside hactive hl hm hdone hw hoa)]
      refine State.drive_outside m (l ++ [a.sentOutside]) _ n (by rw [List.append_assoc]; rfl) ?_
        (waiting_append hdone Active.sentOutside_waiting) hom (by omega) hq
      rw [List.append_assoc, List.map_append, List.singleton_append, List.map_cons, Active.sentOutside_initiator,
        ← List.map_cons, ← List.map_append]
      exact hdistinct

/-! ### The order of the pieces -/

theorem insertByRank_last (rank : Through → Nat) (t : Through) : ∀ l : List Through, (∀ u ∈ l, rank u ≤ rank t) →
    insertByRank rank t l = l ++ [t]
  | [], _ => rfl
  | u :: l, h => by
    obtain ⟨hu, hl⟩ := List.forall_mem_cons.mp h
    rw [insertByRank, if_neg (Nat.not_lt.mpr hu), insertByRank_last rank t l hl]
    rfl

theorem foldl_insertByRank_sorted (rank : Through → Nat) : ∀ joined acc : List Through,
    (acc ++ joined).Pairwise (fun x y => rank x ≤ rank y) →
    joined.foldl (fun acc t => insertByRank rank t acc) acc = acc ++ joined
  | [], acc, _ => (List.append_nil acc).symm
  | t :: joined, acc, h => by
    have before : ∀ u ∈ acc, rank u ≤ rank t := fun u hu => (List.pairwise_append.mp h).2.2 u hu t List.mem_cons_self
    rw [List.foldl_cons, insertByRank_last rank t acc before, foldl_insertByRank_sorted rank joined (acc ++ [t]),
      List.append_assoc]
    · rfl
    · rw [List.append_assoc]
      exact h

/-- In a list of distinct initiators each stands at its own place. -/
theorem findIdx_initiator {l : List Active} (h : (l.map Active.initiator).Nodup) {i : Nat} (hi : i < l.length) :
    l.findIdx (fun a => a.initiator == l[i].initiator) = i := by
  have place := h.idxOf_getElem i (by rw [List.length_map]; exact hi)
  rw [List.getElem_map, List.idxOf, List.findIdx_map] at place
  exact place

theorem pieces_sorted {l : List Active} (h : (l.map Active.initiator).Nodup) : (l.filterMap Active.outsidePiece).Pairwise
    (fun x y => l.findIdx (fun a => a.initiator == x.initiator) ≤ l.findIdx (fun a => a.initiator == y.initiator)) := by
  refine List.pairwise_filterMap.mpr (List.pairwise_iff_getElem.mpr fun i j hi hj hij x hx y hy => ?_)
  rw [Active.outsidePiece_initiator hx, Active.outsidePiece_initiator hy, findIdx_initiator h hi, findIdx_initiator h hj]
  exact hij.le

/-- An event that only lets stalled writes send what lies outside: each sends one piece, the write taken first first. -/
theorem State.settle_sendsAll {t : State} (hdistinct : t.OneRequestEach) (ho : ∀ y ∈ t.active, ∀ c ∈ y.waiting, c.cls = .outside)
    (hstill : (t.sendsAll [] t.active).Still) : t.settle = t.sendsAll [] t.active := by
  have few : t.active.length ≤ Config.stepFuel := by
    have four := hdistinct.length_le_card
    rw [List.length_map, Fintype.card_fin] at four
    exact four.trans (by decide)
  have driven := State.drive_outside t.active [] t Config.stepFuel rfl hdistinct nofun ho few hstill.quiet
  have rank : (t.sendsAll [] t.active).takeRank
      = fun x => t.active.findIdx (fun a => a.initiator == x.initiator) := by
    funext x
    unfold State.takeRank State.sendsAll
    rw [List.nil_append, List.findIdx_map]
    exact congrArg (fun p => t.active.findIdx p) (funext fun a => by rw [Function.comp, Active.sentOutside_initiator])
  have ordered : (t.sendsAll [] t.active).orderJoined t.through.length = t.sendsAll [] t.active := by
    have drop : (t.sendsAll [] t.active).through.drop t.through.length = t.active.filterMap Active.outsidePiece := List.drop_left
    have take : (t.sendsAll [] t.active).through.take t.through.length = t.through := List.take_left
    unfold State.orderJoined
    rw [drop, take, rank, foldl_insertByRank_sorted _ _ [] (pieces_sorted hdistinct), List.nil_append]
    rfl
  unfold State.settle
  rw [driven, ordered, State.markStalled_of_none _ hstill.waiting, State.testHolds_of_not_due _ hstill.testDue]

/-! ### The core reset -/

/-- The state of a core reset before the stalled writes go on. -/
def State.coreBlocks (s : State) : State := { State.reset with
  run := s.run, refdiv := s.refdiv, resetCause := .core, mclk := s.mclk, pending := s.pending, votes := s.votes
  active := s.active.map Active.allOutside, issued := s.issued, responses := s.responses
  through := s.through.map (fun t : Through => { t with record := none }) }

section
variable {s : State} {f : Frame}

theorem exec_frameEnd_of_due (hm : s.mselLow = true) (hf : s.frame = some f) (hc : f.coreReset = true) :
    exec .frameEnd s = .next s.coreBlocks.settle := by
  have due : s.coreResetDue = true := by
    unfold State.coreResetDue
    rw [hf]
    exact hc
  exact (if_pos hm).trans (if_pos due)

/-- After a core reset nothing but stalled writes is left. -/
theorem State.coreBlocks_still (ha : ∀ a ∈ s.coreBlocks.active, a.waiting = []) : s.coreBlocks.Still :=
  (reset_calm.still rfl).congr ha (fun _ => rfl) (fun _ _ => rfl) rfl rfl rfl rfl rfl rfl rfl rfl rfl

theorem State.coreBlocks_sent_still {l m : List Active} (ha : ∀ a ∈ (s.coreBlocks.sendsAll l m).active, a.waiting = []) :
    (s.coreBlocks.sendsAll l m).Still :=
  (reset_calm.still rfl).congr ha (fun _ => rfl) (fun _ _ => rfl) rfl rfl rfl rfl rfl rfl rfl rfl rfl

theorem State.settle_coreBlocks (h : s.OneRequestEach) :
    s.coreBlocks.settle = s.coreBlocks.sendsAll [] s.coreBlocks.active := by
  refine State.settle_sendsAll ?_ (fun y hy c hc => ?_) (State.coreBlocks_sent_still fun a ha => ?_)
  · change ((s.active.map Active.allOutside).map Active.initiator).Nodup
    rw [List.map_map]
    exact h
  · obtain ⟨a, -, rfl⟩ := List.mem_map.mp hy
    exact Active.allOutside_cls hc
  · obtain ⟨b, -, rfl⟩ := List.mem_map.mp ha
    exact Active.sentOutside_waiting

end

/-- Settles O55. -/
theorem coreResetAtTheEndOfItsFrame : Obligations.CoreResetAtTheEndOfItsFrame := by
  refine ⟨fun s f h => ?_, fun s f hm hf hc hw => ?_, fun s f hm hf hc hdistinct => ?_⟩
  · obtain ⟨hf, hr⟩ := h
    change execCoreReset s = _
    unfold execCoreReset
    rw [hf]
    dsimp only
    rw [hr]
    rfl
  · have same : s.active.map Active.allOutside = s.active :=
      (List.map_congr_left fun a ha => Active.allOutside_of_none (hw a ha)).trans (List.map_id _)
    have waiting : ∀ a ∈ s.active.map Active.allOutside, a.waiting = [] := by
      rw [same]
      exact hw
    have still : s.coreBlocks.Still := State.coreBlocks_still waiting
    rw [exec_frameEnd_of_due hm hf hc, still.settle, State.coreBlocks, same]
  · have active : (s.active.map Active.allOutside).map Active.sentOutside = s.active.map Active.sentOutside := by
      rw [List.map_map]
      exact List.map_congr_left fun a _ => Active.allOutside_sentOutside
    have pieces : (s.active.map Active.allOutside).filterMap Active.outsidePiece = s.active.filterMap Active.outsidePiece := by
      rw [List.filterMap_map]
      exact List.filterMap_congr fun a _ => Active.allOutside_outsidePiece
    rw [exec_frameEnd_of_due hm hf hc, State.settle_coreBlocks hdistinct, State.sendsAll, State.coreBlocks]
    dsimp only
    rw [active, pieces, List.nil_append]
    congr 3

end Sys2Proof.Machine
